-- ==== Sys2Proof/Word.lean ====
section
/-! DEFINITION. The widths of the spec (00_scope.md R5), the values of a command word's two fields
(30_encoding.md R61, R62), and the colour types that registers and the palette function share. -/

namespace Sys2Proof

/-- `u8`: a colour channel, a weight, a byte of a host access. -/
abbrev Byte := BitVec 8

/-- `u16`: an RGB-565 endpoint (40_unpack_expand.md R80). -/
abbrev Half := BitVec 16

/-- `u32`: a register of the window, a command word (20_memory.md R41, 30_encoding.md R60). -/
abbrev Word := BitVec 32

/-- `u64`: `BLK` and `WERR` (10_state.md R11, R17). -/
abbrev DWord := BitVec 64

/-- The operation of a command, field `op` (30_encoding.md R61). -/
inductive Op where
  | nop
  | palgen
  | eval
  | weval
  deriving DecidableEq, Repr

/-- The decoder rule of a command, field `dec` (30_encoding.md R62). -/
inductive Decoder where
  | reference
  | vendorA
  | vendorB
  deriving DecidableEq, Repr

/-- The three colour channels of a palette entry whose alpha is not yet attached. -/
structure Rgb where
  r : Byte
  g : Byte
  b : Byte
  deriving DecidableEq, Repr, Inhabited

/-- Four 8-bit channels: a texel (10_state.md R12) or a palette entry (R15). -/
structure Rgba where
  r : Byte
  g : Byte
  b : Byte
  a : Byte
  deriving DecidableEq, Repr, Inhabited

/-- The three channel weights of `CW` (10_state.md R14). -/
structure ChannelWeights where
  mR : Byte
  mG : Byte
  mB : Byte
  deriving DecidableEq, Repr, Inhabited

end Sys2Proof
end

