-- ==== Sys2Proof/Config.lean ====
section
/-! DEFINITION. The implementation parameters of 00_scope.md R4: the fixed ones as numbers, the open
ones as plain data that a state carries (log 3), and the free values, constants without a body. -/

namespace Sys2Proof

/-- `VB_DIV`: a divisor, so never 0 (93_implementation_defined.md U4). -/
structure Divisor where
  val : Nat
  pos : 0 < val
  deriving DecidableEq, Repr

/-- `BASE`: the window's byte address, a multiple of 4 (20_memory.md R49). -/
structure WindowBase where
  addr : Nat
  aligned : addr % 4 = 0
  deriving DecidableEq, Repr

/-- `PaletteVA` (41_palette.md R109): the default instance, rules R106 to R108, or some other
function of the two endpoints, of which nothing is assumed but the five properties of R109. -/
inductive PaletteVA where
  | reconstruction
  | uninterpreted (which : Nat)
  deriving DecidableEq, Repr

/-- The open parameters of one unit (00_scope.md R4). -/
structure Params where
  base : WindowBase
  vbDiv : Divisor
  vaG3Coef : Nat
  paletteVA : PaletteVA
  deriving DecidableEq, Repr

namespace Config

/-- `VA_G4_COEF` (00_scope.md R4, 41_palette.md R107). -/
def vaG4Coef : Nat := 80

/-- The defaults of 00_scope.md R4. `BASE` has none there: 0 is the model's DESIGN CHOICE (log 3). -/
def defaults : Params where
  base := ⟨0, by decide⟩
  vbDiv := ⟨8, by decide⟩
  vaG3Coef := 128
  paletteVA := .reconstruction

/-- The colours of Vendor A entries 2 and 3 under an instance of `PaletteVA` that is not the default
(41_palette.md R109). FREE: a function of `col0` and `col1` of which nothing is known. In 3-color
mode only the first is used. -/
opaque paletteVA : Nat → Half → Half → Rgb × Rgb

/-- FREE VALUE (log 5): the Vendor A 3-color green where the quotient of 41_palette.md R108 is not a
u8, as happens only for a `VA_G3_COEF` other than the default. Its argument is the quotient. -/
opaque greenOutOfRange : Int → Byte

/-- FREE VALUES (log 2): what each data register holds after the n-th `Reset`
(10_state.md R29, 93_implementation_defined.md U1). -/
opaque resetBlk : Nat → DWord
opaque resetTex : Nat → Vector Rgba 16
opaque resetTw : Nat → Vector Byte 16
opaque resetCw : Nat → ChannelWeights
opaque resetPal : Nat → Vector Rgba 4
opaque resetErr : Nat → Word
opaque resetWerr : Nat → DWord

end Config

end Sys2Proof
end

