-- ==== Sys2Proof/Syntax.lean ====
section
/-! DEFINITION. The commands of BC1PG: one constructor per row of `opcode_table.json`, which has one
row per legal command word (30_encoding.md R66). A command has no operand but its decoder select
(R63), and each row fixes it. -/

namespace Sys2Proof

/-- The twelve commands (30_encoding.md R64, R66; mnemonics of R68). -/
inductive Instr where
  | nopRef
  | nopVa
  | nopVb
  | palgenRef
  | palgenVa
  | palgenVb
  | evalRef
  | evalVa
  | evalVb
  | wevalRef
  | wevalVa
  | wevalVb
  deriving DecidableEq, Repr

/-- The operation of a command (30_encoding.md R61). -/
def Instr.op : Instr → Op
  | .nopRef => .nop
  | .nopVa => .nop
  | .nopVb => .nop
  | .palgenRef => .palgen
  | .palgenVa => .palgen
  | .palgenVb => .palgen
  | .evalRef => .eval
  | .evalVa => .eval
  | .evalVb => .eval
  | .wevalRef => .weval
  | .wevalVa => .weval
  | .wevalVb => .weval

/-- The decoder select of a command (30_encoding.md R62). -/
def Instr.dec : Instr → Decoder
  | .nopRef => .reference
  | .nopVa => .vendorA
  | .nopVb => .vendorB
  | .palgenRef => .reference
  | .palgenVa => .vendorA
  | .palgenVb => .vendorB
  | .evalRef => .reference
  | .evalVa => .vendorA
  | .evalVb => .vendorB
  | .wevalRef => .reference
  | .wevalVa => .vendorA
  | .wevalVb => .vendorB

end Sys2Proof
end

