-- ==== Sys2Proof/Machine/State.lean ====
section
/-! DEFINITION. The architectural state (10_state.md R10), the model's own fields beside it, the state
after reset, and the reasons a step could stop for. -/

namespace Sys2Proof.Machine

/-- The six flags of `STATUS` (10_state.md R18). Bits 31:6 are no state: they read 0. -/
structure Status where
  palv : Bool
  errv : Bool
  werrv : Bool
  mode4 : Bool
  ill : Bool
  acc : Bool
  deriving DecidableEq, Repr

/-- What can reach the unit from outside, one per step (00_scope.md R8, 70_reset_and_hazards.md
R188). An address is a byte address of the host's; the bytes of an access stand lowest address
first (20_memory.md R42). -/
inductive HostEvent where
  /-- The reset event (70_reset_and_hazards.md R180). -/
  | reset
  /-- A read of `width` bytes at byte address `addr`. -/
  | read (addr width : Nat)
  /-- A write of the bytes `data` at byte address `addr`. -/
  | write (addr : Nat) (data : List Byte)
  deriving DecidableEq, Repr

/-- The state. The first eight fields are the whole architectural state of 10_state.md R10; the
other five are the model's own (INVENTORY.md, State). -/
structure State where
  /-- `BLK` (10_state.md R11). -/
  blk : DWord
  /-- `TEX[0..15]` (10_state.md R12). -/
  tex : Vector Rgba 16
  /-- `TW[0..15]` (10_state.md R13). -/
  tw : Vector Byte 16
  /-- `CW` (10_state.md R14). -/
  cw : ChannelWeights
  /-- `PAL[0..3]` (10_state.md R15). -/
  pal : Vector Rgba 4
  /-- `ERR` (10_state.md R16). -/
  err : Word
  /-- `WERR` (10_state.md R17). -/
  werr : DWord
  /-- `STATUS` (10_state.md R18). -/
  status : Status
  /-- The open parameters of the instance, constants (10_state.md R27; log 3). -/
  params : Params
  /-- The host's inputs still to arrive, in order (10_state.md R26; log 4). -/
  pending : List HostEvent
  /-- The bytes the latest transaction returned to the host (20_memory.md R44; log 6). -/
  reply : Option (List Byte)
  /-- How many resets have happened, the index of the next free draw (10_state.md R29; log 2). -/
  resetCount : Nat
  /-- The ghost bit of 60_exceptions.md R168 (log 7). -/
  errorSeen : Bool
  deriving DecidableEq, Repr

/-- Faults: none. The unit "never traps, never interrupts and never stops" (60_exceptions.md, R166);
illegal words and access errors set flags (R161, R162), which the model does (log 9). -/
inductive Fault where
  deriving DecidableEq, Repr

/-- Refusals. -/
inductive Refusal where
  /-- Raised by an arm of `exec` whose command has no meaning yet; no arm does. Safe: the machine
  stops where the hardware goes on. -/
  | notModelled (mnemonic : String)
  deriving DecidableEq, Repr

/-- The machine right after reset (10_state.md R29): the six flags 0; every data register, which R29
leaves unspecified, at 0 (DESIGN CHOICE, log 1); the parameters at the defaults of 00_scope.md R4
(log 3); nothing issued, nothing returned, no error seen (log 4, 6, 7). -/
def State.reset : State where
  blk := 0
  tex := Vector.replicate 16 ⟨0, 0, 0, 0⟩
  tw := Vector.replicate 16 0
  cw := ⟨0, 0, 0⟩
  pal := Vector.replicate 4 ⟨0, 0, 0, 0⟩
  err := 0
  werr := 0
  status := ⟨false, false, false, false, false, false⟩
  params := Config.defaults
  pending := []
  reply := none
  resetCount := 0
  errorSeen := false

end Sys2Proof.Machine
end

