-- ==== Sys2Proof/Machine/Flags.lean ====
section
/-! DEFINITION. The `STATUS` register: its word, what each command and each event writes to its flags,
and write-1-to-clear (10_state.md R18 to R24, 43_control.md R151). -/

namespace Sys2Proof.Machine

/-- `STATUS` as read: `PALV` bit 0 to `ACC` bit 5, bits 31:6 zero (10_state.md R18, 20_memory.md R44). -/
def Status.toWord (f : Status) : Word :=
  (BitVec.ofBool f.acc ++ BitVec.ofBool f.ill ++ BitVec.ofBool f.mode4 ++ BitVec.ofBool f.werrv ++
    BitVec.ofBool f.errv ++ BitVec.ofBool f.palv).setWidth 32

/-- All flags 0 (10_state.md R29). -/
def Status.cleared : Status := ⟨false, false, false, false, false, false⟩

/-- The flags after PALGEN (41_palette.md R111). -/
def Status.afterPalgen (f : Status) (m4 : Bool) : Status :=
  { f with palv := true, errv := false, werrv := false, mode4 := m4 }

/-- The flags after EVAL (42_error.md R134). -/
def Status.afterEval (f : Status) (m4 : Bool) : Status :=
  { f with palv := true, errv := true, werrv := false, mode4 := m4 }

/-- The flags after WEVAL (42_error.md R137). -/
def Status.afterWeval (f : Status) (m4 : Bool) : Status :=
  { f with palv := true, errv := false, werrv := true, mode4 := m4 }

/-- The two events (60_exceptions.md R163). -/
inductive ErrorEvent where
  /-- An illegal command word (R161). -/
  | illegal
  /-- An access error (R162). -/
  | access
  deriving DecidableEq, Repr

/-- The flag of an event becomes 1, whatever it was (60_exceptions.md R161, R162, R167). -/
def Status.raise (f : Status) : ErrorEvent → Status
  | .illegal => { f with ill := true }
  | .access => { f with acc := true }

/-- A write of `v` to `STATUS`: bit 4 clears `ILL`, bit 5 clears `ACC`, nothing else
(20_memory.md R45, 43_control.md R151). -/
def Status.writeOneToClear (f : Status) (v : Word) : Status :=
  { f with ill := f.ill && !v.getLsbD 4, acc := f.acc && !v.getLsbD 5 }

end Sys2Proof.Machine
end

