-- ==== Sys2Proof/WellFormed.lean ====
section
/-! DEFINITION. What is checked of a command. A constructor of `Instr` holds no operand, so there is
no ill-formed `Instr`; the checks are those of a command WORD, the three conditions of
30_encoding.md R64. -/

namespace Sys2Proof

/-- The reserved field `rsv`, bits 31:6, is zero (30_encoding.md R63). -/
def reservedClear (w : Word) : Bool := w.extractLsb' 6 26 == 0

/-- The decoder select, bits 5:4, is one of 0, 1, 2 (30_encoding.md R62). -/
def decoderKnown (w : Word) : Bool := w.extractLsb' 4 2 != 3

/-- The operation, bits 3:0, is one of 0 to 3 (30_encoding.md R61). -/
def opKnown (w : Word) : Bool := (w.extractLsb' 0 4).toNat ≤ 3

/-- `Legal(w)` (30_encoding.md R64). -/
def Legal (w : Word) : Bool := reservedClear w && decoderKnown w && opKnown w

/-- Every command of `Instr` is well formed: it has no field that could be out of range. -/
def Instr.wellFormed : Instr → Bool
  | .nopRef => true
  | .nopVa => true
  | .nopVb => true
  | .palgenRef => true
  | .palgenVa => true
  | .palgenVb => true
  | .evalRef => true
  | .evalVa => true
  | .evalVb => true
  | .wevalRef => true
  | .wevalVa => true
  | .wevalVb => true

end Sys2Proof
end

