-- ==== Sys2Proof/Decode.lean ====
section
/-! DEFINITION. Byte order of a 32-bit access (20_memory.md R42); the decoder from words and bytes to
commands, total, rejecting by name; then the encoder (30_encoding.md R60 to R66). -/

namespace Sys2Proof

/-- The 32-bit word whose byte at offset `off + i` is `b_i` (20_memory.md R42). -/
def wordOfBytes (b0 b1 b2 b3 : Byte) : Word := b3 ++ b2 ++ b1 ++ b0

/-- The four bytes of a word, lowest offset first (20_memory.md R42). -/
def bytesOfWord (v : Word) : List Byte :=
  [v.extractLsb' 0 8, v.extractLsb' 8 8, v.extractLsb' 16 8, v.extractLsb' 24 8]

/-- Why bytes are no command (30_encoding.md R64; fewer than four bytes: R67). -/
inductive Rejection where
  | reservedBitsSet
  | decoderUnknown
  | opUnknown
  | tooShort
  deriving DecidableEq, Repr

/-- Field `op`, bits 3:0 (30_encoding.md R60). -/
def opField (w : Word) : BitVec 4 := w.extractLsb' 0 4

/-- Field `dec`, bits 5:4 (30_encoding.md R60). -/
def decField (w : Word) : BitVec 2 := w.extractLsb' 4 2

/-- Field `rsv`, bits 31:6 (30_encoding.md R60). -/
def rsvField (w : Word) : BitVec 26 := w.extractLsb' 6 26

/-- The table of 30_encoding.md R61. -/
def opOfField (f : BitVec 4) : Option Op :=
  if f = 0x0 then some .nop
  else if f = 0x1 then some .palgen
  else if f = 0x2 then some .eval
  else if f = 0x3 then some .weval
  else none

/-- The table of 30_encoding.md R62. -/
def decoderOfField (f : BitVec 2) : Option Decoder :=
  if f = 0 then some .reference
  else if f = 1 then some .vendorA
  else if f = 2 then some .vendorB
  else none

/-- The command with a given operation and decoder select (30_encoding.md R66). -/
def commandOf : Op → Decoder → Instr
  | .nop, .reference => .nopRef
  | .nop, .vendorA => .nopVa
  | .nop, .vendorB => .nopVb
  | .palgen, .reference => .palgenRef
  | .palgen, .vendorA => .palgenVa
  | .palgen, .vendorB => .palgenVb
  | .eval, .reference => .evalRef
  | .eval, .vendorA => .evalVa
  | .eval, .vendorB => .evalVb
  | .weval, .reference => .wevalRef
  | .weval, .vendorA => .wevalVa
  | .weval, .vendorB => .wevalVb

/-- The decoder, total on all 2^32 words (30_encoding.md R64, R65). -/
def decodeWord (w : Word) : Except Rejection Instr :=
  if rsvField w ≠ 0 then .error .reservedBitsSet
  else
    match decoderOfField (decField w) with
    | none => .error .decoderUnknown
    | some d =>
      match opOfField (opField w) with
      | none => .error .opUnknown
      | some o => .ok (commandOf o d)

/-- The decoder on bytes as a host delivers them: one command, and the bytes after it. -/
def decodeBytes : List Byte → Except Rejection (Instr × List Byte)
  | b0 :: b1 :: b2 :: b3 :: rest =>
    match decodeWord (wordOfBytes b0 b1 b2 b3) with
    | .ok i => .ok (i, rest)
    | .error e => .error e
  | _ => .error .tooShort

/-- The number of an operation (30_encoding.md R61). -/
def opCode : Op → BitVec 4
  | .nop => 0x0
  | .palgen => 0x1
  | .eval => 0x2
  | .weval => 0x3

/-- The number of a decoder rule (30_encoding.md R62). -/
def decoderCode : Decoder → BitVec 2
  | .reference => 0
  | .vendorA => 1
  | .vendorB => 2

/-- The word of a command: `rsv` zero, `dec`, `op` (30_encoding.md R60). -/
def encodeWord (i : Instr) : Word := (0 : BitVec 26) ++ decoderCode i.dec ++ opCode i.op

/-- The bytes of a command, lowest offset first. -/
def encode (i : Instr) : List Byte := bytesOfWord (encodeWord i)

/-- What the decoder reads from a table row's bits (bits above `nbits` are 0). -/
def decodeTableWord (nbits w : Nat) : Option Instr :=
  match decodeBytes (bytesOfWord (BitVec.ofNat 32 (w % 2 ^ nbits))) with
  | .ok (i, _) => some i
  | .error _ => none

end Sys2Proof
end

