-- ==== Sys2Proof/Machine/Operands.lean ====
section
/-! DEFINITION. How commands read their operands: the fields of `BLK` and of the colour words, field
extraction and bit expansion of endpoints, the mode, and the index of a texel
(10_state.md R11 to R15, 40_unpack_expand.md, 42_error.md R130). -/

namespace Sys2Proof

/-- A colour from its word: R 7:0, G 15:8, B 23:16, A 31:24 (10_state.md R12, R15). -/
def Rgba.ofWord (v : Word) : Rgba :=
  ⟨v.extractLsb' 0 8, v.extractLsb' 8 8, v.extractLsb' 16 8, v.extractLsb' 24 8⟩

/-- The word of a colour (10_state.md R12, R15). -/
def Rgba.toWord (c : Rgba) : Word := c.a ++ c.b ++ c.g ++ c.r

/-- `CW` from a written word, bits 31:24 ignored (20_memory.md R45). -/
def ChannelWeights.ofWord (v : Word) : ChannelWeights :=
  ⟨v.extractLsb' 0 8, v.extractLsb' 8 8, v.extractLsb' 16 8⟩

/-- `CW` as read: bits 31:24 are 0 (20_memory.md R44). -/
def ChannelWeights.toWord (c : ChannelWeights) : Word := (c.mB ++ c.mG ++ c.mR).setWidth 32

namespace Machine

/-- `BLK.col0` (10_state.md R11). -/
def blkCol0 (blk : DWord) : Half := blk.extractLsb' 0 16

/-- `BLK.col1` (10_state.md R11). -/
def blkCol1 (blk : DWord) : Half := blk.extractLsb' 16 16

/-- `BLK.indices` (10_state.md R11). -/
def blkIndices (blk : DWord) : Word := blk.extractLsb' 32 32

/-- `BLK[31:0]`, the register `BLK_LO` (20_memory.md R41). -/
def blkLow (blk : DWord) : Word := blk.extractLsb' 0 32

/-- `BLK[63:32]`, the register `BLK_HI` (20_memory.md R41). -/
def blkHigh (blk : DWord) : Word := blk.extractLsb' 32 32

/-- Fields `r5`, `g6`, `b5` of an endpoint. -/
structure Fields565 where
  r5 : BitVec 5
  g6 : BitVec 6
  b5 : BitVec 5
  deriving DecidableEq, Repr

/-- `Unpack565` (40_unpack_expand.md R80). -/
def unpack565 (c : Half) : Fields565 :=
  ⟨c.extractLsb' 11 5, c.extractLsb' 5 6, c.extractLsb' 0 5⟩

/-- `Expand5` (40_unpack_expand.md R81). -/
def expand5 (c5 : BitVec 5) : Byte := (c5.setWidth 8 <<< 3) ||| (c5.setWidth 8 >>> 2)

/-- `Expand6` (40_unpack_expand.md R82). -/
def expand6 (c6 : BitVec 6) : Byte := (c6.setWidth 8 <<< 2) ||| (c6.setWidth 8 >>> 4)

/-- `Expand565` (40_unpack_expand.md R84). -/
def expand565 (c : Half) : Rgba :=
  ⟨expand5 (unpack565 c).r5, expand6 (unpack565 c).g6, expand5 (unpack565 c).b5, 255⟩

/-- `Mode4`: an unsigned comparison of the packed endpoints (40_unpack_expand.md R85). -/
def mode4 (col0 col1 : Half) : Bool := decide (col0.toNat > col1.toNat)

/-- `Idx(k)` (42_error.md R130). -/
def idx (blk : DWord) (k : Fin 16) : Fin 4 :=
  ⟨((blkIndices blk).toNat >>> (2 * k.val)) % 4, Nat.mod_lt _ (by decide)⟩

/-- The four weights of `TWj`, j = 0..3, lowest index in the low byte (20_memory.md R41). -/
def twWord (tw : Vector Byte 16) (j : Fin 4) : Word :=
  tw[4 * j.val + 3] ++ tw[4 * j.val + 2] ++ tw[4 * j.val + 1] ++ tw[4 * j.val]

/-- A write of `TWj` (20_memory.md R45). -/
def setTwWord (tw : Vector Byte 16) (j : Fin 4) (v : Word) : Vector Byte 16 :=
  (((tw.set (4 * j.val) (v.extractLsb' 0 8)).set (4 * j.val + 1) (v.extractLsb' 8 8)).set
    (4 * j.val + 2) (v.extractLsb' 16 8)).set (4 * j.val + 3) (v.extractLsb' 24 8)

end Machine

end Sys2Proof
end

