-- ==== Sys2Proof/Machine/Ops.lean ====
section
/-! DEFINITION. The named operations on the unit's registers: taking an error event, the register
window's map, reads and writes of its registers, replies, and the reset event. -/

namespace Sys2Proof.Machine

/-- Taking an event, the one shared operation for both of them: its flag is set, with the ghost bit,
and nothing else changes; no state is saved, no control is transferred (60_exceptions.md R161,
R162, R166, R168). There is no return from it (R167): `clearSticky` is what clears a flag. -/
def takeError (e : ErrorEvent) (s : State) : State :=
  { s with status := s.status.raise e, errorSeen := true }

/-- The write-1-to-clear of `STATUS` (43_control.md R151). -/
def clearSticky (v : Word) (s : State) : State :=
  { s with status := s.status.writeOneToClear v }

/-- The mapped registers of the window (20_memory.md R41). -/
inductive WindowReg where
  | blkLo
  | blkHi
  | cmd
  | status
  | cw
  | tw (j : Fin 4)
  | tex (k : Fin 16)
  | pal (n : Fin 4)
  | err
  | werrLo
  | werrHi
  deriving DecidableEq, Repr

/-- The register at an offset that is a multiple of 4, none where the window is unmapped
(20_memory.md R41, R47). -/
def registerAt (off : Nat) : Option WindowReg :=
  if off = 0x00 then some .blkLo
  else if off = 0x04 then some .blkHi
  else if off = 0x08 then some .cmd
  else if off = 0x0C then some .status
  else if off = 0x10 then some .cw
  else if h : 0x20 ≤ off ∧ off < 0x30 then some (.tw ⟨(off - 0x20) / 4, by omega⟩)
  else if h : 0x40 ≤ off ∧ off < 0x80 then some (.tex ⟨(off - 0x40) / 4, by omega⟩)
  else if h : 0x80 ≤ off ∧ off < 0x90 then some (.pal ⟨(off - 0x80) / 4, by omega⟩)
  else if off = 0x90 then some .err
  else if off = 0x98 then some .werrLo
  else if off = 0x9C then some .werrHi
  else none

/-- The offset of a register (20_memory.md R41). -/
def WindowReg.offset : WindowReg → Nat
  | .blkLo => 0x00
  | .blkHi => 0x04
  | .cmd => 0x08
  | .status => 0x0C
  | .cw => 0x10
  | .tw j => 0x20 + 4 * j.val
  | .tex k => 0x40 + 4 * k.val
  | .pal n => 0x80 + 4 * n.val
  | .err => 0x90
  | .werrLo => 0x98
  | .werrHi => 0x9C

/-- The word a read of a register returns (20_memory.md R44). -/
def readReg (r : WindowReg) (s : State) : Word :=
  match r with
  | .blkLo => blkLow s.blk
  | .blkHi => blkHigh s.blk
  | .cmd => 0
  | .status => s.status.toWord
  | .cw => s.cw.toWord
  | .tw j => twWord s.tw j
  | .tex k => s.tex[k].toWord
  | .pal n => s.pal[n].toWord
  | .err => s.err
  | .werrLo => s.werr.extractLsb' 0 32
  | .werrHi => s.werr.extractLsb' 32 32

/-- A write of a register other than by way of a command (20_memory.md R45): read-only registers
answer with an access error. `CMD` holds no value (10_state.md R25), so nothing is stored there;
what a write to it executes is `execute` of Machine/Bus.lean. -/
def writeReg (r : WindowReg) (v : Word) (s : State) : State :=
  match r with
  | .blkLo => { s with blk := blkHigh s.blk ++ v }
  | .blkHi => { s with blk := v ++ blkLow s.blk }
  | .cmd => s
  | .status => clearSticky v s
  | .cw => { s with cw := .ofWord v }
  | .tw j => { s with tw := setTwWord s.tw j v }
  | .tex k => { s with tex := s.tex.set k (.ofWord v) }
  | .pal _ => takeError .access s
  | .err => takeError .access s
  | .werrLo => takeError .access s
  | .werrHi => takeError .access s

/-- The offset that the unit decodes, of a window of `WIN_SIZE` = 256 bytes; none for an access that
is not addressed to the unit (20_memory.md R40; log 10, log 11). -/
def windowOffset (p : Params) (addr : Nat) : Option Nat :=
  if p.base.addr ≤ addr ∧ addr < p.base.addr + 256 then some (addr - p.base.addr)
  else none

/-- The bytes returned to the host (20_memory.md R44; log 6). -/
def respond (data : List Byte) (s : State) : State := { s with reply := some data }

/-- The next input is taken off the host's stream; until it answers, nothing is returned (log 4, 6). -/
def accept (rest : List HostEvent) (s : State) : State :=
  { s with pending := rest, reply := none }

/-- The `Reset` event (70_reset_and_hazards.md R180, 10_state.md R29): the flags 0, every data
register at a free value of its own (log 2); the parameters stay (R181), and so does the ghost bit,
which "is never cleared" (60_exceptions.md R168). -/
def resetUnit (s : State) : State :=
  { s with
    blk := Config.resetBlk s.resetCount
    tex := Config.resetTex s.resetCount
    tw := Config.resetTw s.resetCount
    cw := Config.resetCw s.resetCount
    pal := Config.resetPal s.resetCount
    err := Config.resetErr s.resetCount
    werr := Config.resetWerr s.resetCount
    status := Status.cleared
    resetCount := s.resetCount + 1 }

end Sys2Proof.Machine
end

