-- ==== Sys2Proof/Machine/Control.lean ====
section
/-! DEFINITION. NOP (43_control.md R150). -/

namespace Sys2Proof.Machine

/-- NOP: no register, no flag changes; the decoder select has no effect (43_control.md R150). -/
def nopStep (_ : Decoder) (s : State) : Host.Outcome State Fault Refusal := .next s

/-- `nop.ref` -/
def execNopRef (s : State) : Host.Outcome State Fault Refusal := nopStep .reference s

/-- `nop.va` -/
def execNopVa (s : State) : Host.Outcome State Fault Refusal := nopStep .vendorA s

/-- `nop.vb` -/
def execNopVb (s : State) : Host.Outcome State Fault Refusal := nopStep .vendorB s

end Sys2Proof.Machine
end

