-- ==== Sys2Proof/Machine/Palette.lean ====
section
/-! DEFINITION. Palette synthesis under the three decoder rules, and PALGEN (41_palette.md). Channel
arithmetic is on unbounded integers and narrowed at the end (00_scope.md R6). -/

namespace Sys2Proof.Machine

/-- A palette with its mode, what `Palette` returns (41_palette.md R110). -/
structure PaletteResult where
  entries : Vector Rgba 4
  mode4 : Bool
  deriving DecidableEq, Repr

/-- An opaque entry (41_palette.md R101). -/
def opaqueEntry (c : Rgb) : Rgba := ⟨c.r, c.g, c.b, 255⟩

/-- Entry 3 in 3-color mode (41_palette.md R101). -/
def transparentBlack : Rgba := ⟨0, 0, 0, 0⟩

/-- One formula applied to each of R, G, B (41_palette.md R100, R112). -/
def perChannel (f : Byte → Byte → Byte) (p0 p1 : Rgba) : Rgb :=
  ⟨f p0.r p1.r, f p0.g p1.g, f p0.b p1.b⟩

/-- Reference, 4-color, entry 2 (41_palette.md R102). -/
def ref4Entry2 (p0 p1 : Byte) : Byte := BitVec.ofNat 8 ((2 * p0.toNat + p1.toNat) / 3)

/-- Reference, 4-color, entry 3 (41_palette.md R102). -/
def ref4Entry3 (p0 p1 : Byte) : Byte := BitVec.ofNat 8 ((p0.toNat + 2 * p1.toNat) / 3)

/-- Reference, 3-color, entry 2 (41_palette.md R103). -/
def ref3Entry2 (p0 p1 : Byte) : Byte := BitVec.ofNat 8 ((p0.toNat + p1.toNat) / 2)

/-- Vendor B, 4-color, entry 2; `BitVec.ofNat 8` is `trunc8` (41_palette.md R104). -/
def vb4Entry2 (div : Divisor) (p0 p1 : Byte) : Byte :=
  BitVec.ofNat 8 ((43 * p0.toNat + 21 * p1.toNat + 32) / div.val)

/-- Vendor B, 4-color, entry 3 (41_palette.md R104). -/
def vb4Entry3 (div : Divisor) (p0 p1 : Byte) : Byte :=
  BitVec.ofNat 8 ((43 * p1.toNat + 21 * p0.toNat + 32) / div.val)

/-- Vendor B, 3-color, entry 2 (41_palette.md R105). -/
def vb3Entry2 (p0 p1 : Byte) : Byte := BitVec.ofNat 8 ((p0.toNat + p1.toNat + 1) / 2)

/-- Vendor A, 4-color, entry 2, red and blue, on raw fields (41_palette.md R106). -/
def va4Entry2RB (x0 x1 : BitVec 5) : Byte :=
  BitVec.ofNat 8 (((2 * x0.toNat + x1.toNat) * 22) / 8)

/-- Vendor A, 4-color, entry 3, red and blue, on raw fields (41_palette.md R106). -/
def va4Entry3RB (x0 x1 : BitVec 5) : Byte :=
  BitVec.ofNat 8 (((2 * x1.toNat + x0.toNat) * 22) / 8)

/-- Vendor A, 3-color, entry 2, red and blue, on raw fields (41_palette.md R108). -/
def va3Entry2RB (x0 x1 : BitVec 5) : Byte := BitVec.ofNat 8 (((x0.toNat + x1.toNat) * 33) / 8)

/-- `gdiff = G1 - G0` (41_palette.md R107). -/
def gdiff (g0 g1 : Byte) : Int := (g1.toNat : Int) - (g0.toNat : Int)

/-- Vendor A, 4-color, entry 2, green (41_palette.md R107); the quotient is in 0..255 (R113). -/
def va4Entry2G (g0 g1 : Byte) : Byte :=
  BitVec.ofInt 8 (Int.tdiv
    (256 * (g0.toNat : Int) + Int.tdiv (gdiff g0 g1) 4 + 128 + Config.vaG4Coef * gdiff g0 g1) 256)

/-- Vendor A, 4-color, entry 3, green (41_palette.md R107); the quotient is in 0..255 (R113). -/
def va4Entry3G (g0 g1 : Byte) : Byte :=
  BitVec.ofInt 8 (Int.tdiv
    (256 * (g1.toNat : Int) - Int.tdiv (gdiff g0 g1) 4 + 128 - Config.vaG4Coef * gdiff g0 g1) 256)

/-- The quotient of the Vendor A 3-color green (41_palette.md R108). -/
def va3Quotient (coef : Nat) (g0 g1 : Byte) : Int :=
  Int.tdiv (256 * (g0.toNat : Int) + Int.tdiv (gdiff g0 g1) 4 + 128 + coef * gdiff g0 g1) 256

/-- Vendor A, 3-color, entry 2, green (41_palette.md R108). The rules give no value where the
quotient is not a u8: a free value there (log 5). -/
def va3Entry2G (coef : Nat) (g0 g1 : Byte) : Byte :=
  if 0 ≤ va3Quotient coef g0 g1 ∧ va3Quotient coef g0 g1 ≤ 255 then
    BitVec.ofInt 8 (va3Quotient coef g0 g1)
  else Config.greenOutOfRange (va3Quotient coef g0 g1)

/-- Vendor A, 4-color, entries 2 and 3 (41_palette.md R106, R107, or R109). -/
def va4Entries (p : Params) (col0 col1 : Half) : Rgb × Rgb :=
  match p.paletteVA with
  | .reconstruction =>
    (⟨va4Entry2RB (unpack565 col0).r5 (unpack565 col1).r5,
      va4Entry2G (expand565 col0).g (expand565 col1).g,
      va4Entry2RB (unpack565 col0).b5 (unpack565 col1).b5⟩,
     ⟨va4Entry3RB (unpack565 col0).r5 (unpack565 col1).r5,
      va4Entry3G (expand565 col0).g (expand565 col1).g,
      va4Entry3RB (unpack565 col0).b5 (unpack565 col1).b5⟩)
  | .uninterpreted n => Config.paletteVA n col0 col1

/-- Vendor A, 3-color, entry 2 (41_palette.md R108, or R109). -/
def va3Entry (p : Params) (col0 col1 : Half) : Rgb :=
  match p.paletteVA with
  | .reconstruction =>
    ⟨va3Entry2RB (unpack565 col0).r5 (unpack565 col1).r5,
      va3Entry2G p.vaG3Coef (expand565 col0).g (expand565 col1).g,
      va3Entry2RB (unpack565 col0).b5 (unpack565 col1).b5⟩
  | .uninterpreted n => (Config.paletteVA n col0 col1).1

/-- Entries 2 and 3 in 4-color mode (41_palette.md R110). -/
def entries4 (p : Params) (col0 col1 : Half) : Decoder → Rgb × Rgb
  | .reference =>
    (perChannel ref4Entry2 (expand565 col0) (expand565 col1),
     perChannel ref4Entry3 (expand565 col0) (expand565 col1))
  | .vendorA => va4Entries p col0 col1
  | .vendorB =>
    (perChannel (vb4Entry2 p.vbDiv) (expand565 col0) (expand565 col1),
     perChannel (vb4Entry3 p.vbDiv) (expand565 col0) (expand565 col1))

/-- Entry 2 in 3-color mode (41_palette.md R110). -/
def entry3 (p : Params) (col0 col1 : Half) : Decoder → Rgb
  | .reference => perChannel ref3Entry2 (expand565 col0) (expand565 col1)
  | .vendorA => va3Entry p col0 col1
  | .vendorB => perChannel vb3Entry2 (expand565 col0) (expand565 col1)

/-- `Palette(col0, col1, dec)` (41_palette.md R110). -/
def palette (p : Params) (col0 col1 : Half) (d : Decoder) : PaletteResult :=
  if mode4 col0 col1 then
    ⟨#v[expand565 col0, expand565 col1, opaqueEntry (entries4 p col0 col1 d).1,
        opaqueEntry (entries4 p col0 col1 d).2], true⟩
  else
    ⟨#v[expand565 col0, expand565 col1, opaqueEntry (entry3 p col0 col1 d), transparentBlack],
      false⟩

/-- The palette of the block in `BLK` (41_palette.md R111, 42_error.md R134, R137). -/
def blockPalette (p : Params) (blk : DWord) (d : Decoder) : PaletteResult :=
  palette p (blkCol0 blk) (blkCol1 blk) d

/-- What PALGEN leaves (41_palette.md R111). -/
def afterPalgen (d : Decoder) (s : State) : State :=
  { s with
    pal := (blockPalette s.params s.blk d).entries
    status := s.status.afterPalgen (blockPalette s.params s.blk d).mode4 }

/-- `PalgenStep(dec)` (41_palette.md R111). -/
def palgenStep (d : Decoder) (s : State) : Host.Outcome State Fault Refusal :=
  .next (afterPalgen d s)

/-- `palgen.ref` -/
def execPalgenRef (s : State) : Host.Outcome State Fault Refusal := palgenStep .reference s

/-- `palgen.va` -/
def execPalgenVa (s : State) : Host.Outcome State Fault Refusal := palgenStep .vendorA s

/-- `palgen.vb` -/
def execPalgenVb (s : State) : Host.Outcome State Fault Refusal := palgenStep .vendorB s

end Sys2Proof.Machine
end

