-- ==== Sys2Proof/Machine/Error.lean ====
section
/-! DEFINITION. Error evaluation, EVAL and WEVAL (42_error.md). The sums are exact natural numbers;
the registers take them as 32 and 64 bits, which they never exceed (R135, R138). -/

namespace Sys2Proof.Machine

/-- The texels of a block, k = 0..15 (00_scope.md R4, `N_TEX`). -/
def allTexels : List (Fin 16) := [0, 1, 2, 3, 4, 5, 6, 7, 8, 9, 10, 11, 12, 13, 14, 15]

/-- The sum over k = 0..15 (42_error.md R133, R136). -/
def sumTexels (f : Fin 16 → Nat) : Nat := (allTexels.map f).sum

/-- `(a - b)^2`, the difference an exact integer (42_error.md R131). -/
def sqDiff (a b : Byte) : Nat := ((a.toNat : Int) - (b.toNat : Int)).natAbs ^ 2

/-- `SqDist(p, t)`: R, G, B only, alpha takes no part (42_error.md R131). -/
def sqDist (p t : Rgba) : Nat := sqDiff p.r t.r + sqDiff p.g t.g + sqDiff p.b t.b

/-- `SSE`, on a palette already made (42_error.md R133). -/
def sse (pal : Vector Rgba 4) (blk : DWord) (tex : Vector Rgba 16) : Nat :=
  sumTexels fun k => sqDist pal[idx blk k] tex[k]

/-- `WSqDist(p, t)`: the channel weights enter squared (42_error.md R136). -/
def wSqDist (cw : ChannelWeights) (p t : Rgba) : Nat :=
  cw.mR.toNat * cw.mR.toNat * sqDiff p.r t.r + cw.mG.toNat * cw.mG.toNat * sqDiff p.g t.g +
    cw.mB.toNat * cw.mB.toNat * sqDiff p.b t.b

/-- `WSSE`, on a palette already made (42_error.md R136). -/
def wsse (pal : Vector Rgba 4) (blk : DWord) (tex : Vector Rgba 16) (tw : Vector Byte 16)
    (cw : ChannelWeights) : Nat :=
  sumTexels fun k => tw[k].toNat * wSqDist cw pal[idx blk k] tex[k]

/-- What EVAL leaves (42_error.md R134). -/
def afterEval (d : Decoder) (s : State) : State :=
  { s with
    pal := (blockPalette s.params s.blk d).entries
    err := BitVec.ofNat 32 (sse (blockPalette s.params s.blk d).entries s.blk s.tex)
    status := s.status.afterEval (blockPalette s.params s.blk d).mode4 }

/-- What WEVAL leaves (42_error.md R137). -/
def afterWeval (d : Decoder) (s : State) : State :=
  { s with
    pal := (blockPalette s.params s.blk d).entries
    werr := BitVec.ofNat 64 (wsse (blockPalette s.params s.blk d).entries s.blk s.tex s.tw s.cw)
    status := s.status.afterWeval (blockPalette s.params s.blk d).mode4 }

/-- `EvalStep(dec)` (42_error.md R134). -/
def evalStep (d : Decoder) (s : State) : Host.Outcome State Fault Refusal := .next (afterEval d s)

/-- `WevalStep(dec)` (42_error.md R137). -/
def wevalStep (d : Decoder) (s : State) : Host.Outcome State Fault Refusal := .next (afterWeval d s)

/-- `eval.ref` -/
def execEvalRef (s : State) : Host.Outcome State Fault Refusal := evalStep .reference s

/-- `eval.va` -/
def execEvalVa (s : State) : Host.Outcome State Fault Refusal := evalStep .vendorA s

/-- `eval.vb` -/
def execEvalVb (s : State) : Host.Outcome State Fault Refusal := evalStep .vendorB s

/-- `weval.ref` -/
def execWevalRef (s : State) : Host.Outcome State Fault Refusal := wevalStep .reference s

/-- `weval.va` -/
def execWevalVa (s : State) : Host.Outcome State Fault Refusal := wevalStep .vendorA s

/-- `weval.vb` -/
def execWevalVb (s : State) : Host.Outcome State Fault Refusal := wevalStep .vendorB s

end Sys2Proof.Machine
end

