-- ==== Sys2Proof/Machine/Dispatch.lean ====
section
/-! DEFINITION. One arm per command (30_encoding.md R65). -/

namespace Sys2Proof.Machine

def exec (i : Instr) (s : State) : Host.Outcome State Fault Refusal :=
  match i with
  | .nopRef => Sys2Proof.Machine.execNopRef s
  | .nopVa => Sys2Proof.Machine.execNopVa s
  | .nopVb => Sys2Proof.Machine.execNopVb s
  | .palgenRef => Sys2Proof.Machine.execPalgenRef s
  | .palgenVa => Sys2Proof.Machine.execPalgenVa s
  | .palgenVb => Sys2Proof.Machine.execPalgenVb s
  | .evalRef => Sys2Proof.Machine.execEvalRef s
  | .evalVa => Sys2Proof.Machine.execEvalVa s
  | .evalVb => Sys2Proof.Machine.execEvalVb s
  | .wevalRef => Sys2Proof.Machine.execWevalRef s
  | .wevalVa => Sys2Proof.Machine.execWevalVa s
  | .wevalVb => Sys2Proof.Machine.execWevalVb s

end Sys2Proof.Machine
end

