-- ==== Sys2Proof/Machine/Bus.lean ====
section
/-! DEFINITION. What one input from outside does: `Execute`, `HostRead`, `HostWrite`, `Reset`
(30_encoding.md R65, 20_memory.md R44 to R47, 70_reset_and_hazards.md R180). -/

namespace Sys2Proof.Machine

/-- `Execute(w)` (30_encoding.md R65): a legal word runs its command, any other sets `ILL` and does
nothing else (60_exceptions.md R161). -/
def execute (w : Word) (s : State) : Host.Outcome State Fault Refusal :=
  match decodeWord w with
  | .ok i => exec i s
  | .error _ => .next (takeError .illegal s)

/-- The state after an aligned 32-bit read at offset `off` (20_memory.md R44, R47). -/
def readWord (off : Nat) (s : State) : State :=
  match registerAt off with
  | some r => respond (bytesOfWord (readReg r s)) s
  | none => respond (bytesOfWord 0) (takeError .access s)

/-- An aligned 32-bit write at offset `off` (20_memory.md R45, R47). -/
def writeWord (off : Nat) (v : Word) (s : State) : Host.Outcome State Fault Refusal :=
  match registerAt off with
  | some .cmd => execute v s
  | some r => .next (writeReg r v s)
  | none => .next (takeError .access s)

/-- A read of `width` bytes: answered only inside the window (20_memory.md R40), with zeros and an
access error unless it is an aligned 32-bit word (R46). -/
def hostRead (addr width : Nat) (s : State) : State :=
  match windowOffset s.params addr with
  | none => s
  | some off =>
    if width = 4 ∧ off % 4 = 0 then readWord off s
    else respond (List.replicate width 0) (takeError .access s)

/-- A write of bytes: taken only inside the window (20_memory.md R40), an access error and nothing
else unless it is an aligned 32-bit word (R46). -/
def hostWrite (addr : Nat) (data : List Byte) (s : State) : Host.Outcome State Fault Refusal :=
  match windowOffset s.params addr with
  | none => .next s
  | some off =>
    match data with
    | [b0, b1, b2, b3] =>
      if off % 4 = 0 then writeWord off (wordOfBytes b0 b1 b2 b3) s
      else .next (takeError .access s)
    | _ => .next (takeError .access s)

/-- One input (00_scope.md R8). -/
def handle (e : HostEvent) (s : State) : Host.Outcome State Fault Refusal :=
  match e with
  | .reset => .next (resetUnit s)
  | .read addr width => .next (hostRead addr width s)
  | .write addr data => hostWrite addr data s

/-- `HostRead(off)` as an input of a unit with these parameters (00_scope.md R7). -/
def readAt (p : Params) (off : Nat) : HostEvent := .read (p.base.addr + off) 4

/-- `HostWrite(off, v)` as an input of a unit with these parameters (00_scope.md R7). -/
def writeAt (p : Params) (off : Nat) (v : Word) : HostEvent :=
  .write (p.base.addr + off) (bytesOfWord v)

/-- One step of the machine: the next input, if there is one, is taken and handled; with none, nothing
happens (log 12), since the unit has no step of its own (00_scope.md R8). -/
def stepOnce (s : State) : Host.Outcome State Fault Refusal :=
  match s.pending with
  | [] => .next s
  | e :: rest => handle e (accept rest s)

/-- A write of the word `w` to `CMD`, put in front of the host's inputs (30_encoding.md R65). -/
def issueCommand (w : Word) (s : State) : State :=
  { s with pending := writeAt s.params 0x08 w :: s.pending }

end Sys2Proof.Machine
end

