-- ==== Sys2Proof/Machine/Step.lean ====
section
/-! DEFINITION. One step: one `Reset`, one `HostRead` or one `HostWrite` (00_scope.md R8); and where
the host finds a command word: in the write to `CMD` that carries it (20_memory.md R52). -/

namespace Sys2Proof.Machine

/-- One step (00_scope.md R8). -/
def step (s : State) : Host.Outcome State Fault Refusal := stepOnce s

/-- `s` with a write of the table word `w` to `CMD` as the host's next input (log 4). -/
def State.withFetchWord (s : State) (nbits w : Nat) : State :=
  issueCommand (BitVec.ofNat 32 (w % 2 ^ nbits)) s

end Sys2Proof.Machine
end

