-- ==== Sys2Proof/Safety.lean ====
section
/-! DEFINITION. What claims call a good state and a good run. -/

namespace Sys2Proof.Machine

/-- No illegal word and no access error since the run began: the premise of 60_exceptions.md R168. -/
def NoErrorSeen (s : State) : Prop := s.errorSeen = false

/-- A flag that is up was seen by the ghost bit (60_exceptions.md R168). -/
def ErrorsAreSeen (s : State) : Prop :=
  s.status.ill = true ∨ s.status.acc = true → s.errorSeen = true

/-- What the flags say of one another (10_state.md R18 to R22): a valid error comes with a valid
palette, `ERRV` and `WERRV` are never both 1, and `MODE4` is 0 while no palette was made. -/
def FlagsAgree (s : State) : Prop :=
  (s.status.errv = true → s.status.palv = true) ∧
  (s.status.werrv = true → s.status.palv = true) ∧
  (s.status.mode4 = true → s.status.palv = true) ∧
  ¬(s.status.errv = true ∧ s.status.werrv = true)

/-- The operand registers and the decoder select of one command (00_scope.md R9). -/
structure Snapshot where
  blk : DWord
  tex : Vector Rgba 16
  tw : Vector Byte 16
  cw : ChannelWeights
  dec : Decoder
  deriving DecidableEq, Repr

/-- Every result register whose valid flag is 1 holds what a command computes from `o`
(10_state.md R18, 70_reset_and_hazards.md R185). -/
def ResultsOf (o : Snapshot) (s : State) : Prop :=
  s.pal = (blockPalette s.params o.blk o.dec).entries ∧
  s.status.mode4 = (blockPalette s.params o.blk o.dec).mode4 ∧
  (s.status.errv = true → s.err.toNat = sse s.pal o.blk o.tex) ∧
  (s.status.werrv = true → s.werr.toNat = wsse s.pal o.blk o.tex o.tw o.cw)

/-- The registers that valid flags guard "were written by one and the same command, from one and the
same operand state" (10_state.md R21). -/
def ResultsCoherent (s : State) : Prop := s.status.palv = true → ∃ o, ResultsOf o s

/-- The invariant of the machine: every step keeps it, and it holds after reset. -/
structure Inv (s : State) : Prop where
  errorsAreSeen : ErrorsAreSeen s
  flagsAgree : FlagsAgree s
  resultsCoherent : ResultsCoherent s

end Sys2Proof.Machine
end

