-- ==== Sys2Proof/Certificates/Slice0/Obligations.lean ====
section
/-! DEFINITION. The statements for the provers. -/

open Sys2Proof Sys2Proof.Machine

namespace Sys2Proof.Claims

/-- The three colour channels of 41_palette.md R100. -/
def channels : List (Rgba → Byte) := [Rgba.r, Rgba.g, Rgba.b]

/-- `p0` and `p1` of 41_palette.md R100. -/
def p0 (s : State) : Rgba := expand565 (blkCol0 s.blk)
def p1 (s : State) : Rgba := expand565 (blkCol1 s.blk)

/-- 4-color mode of the block in `BLK`, on its two 16-bit fields (40_unpack_expand.md R85). -/
def FourColor (s : State) : Prop :=
  (s.blk.extractLsb' 0 16).toNat > (s.blk.extractLsb' 16 16).toNat

/-- The palette entries a command with decoder `d` makes from the operands of `s`. -/
def pal (d : Decoder) (s : State) : Vector Rgba 4 :=
  (palette s.params (blkCol0 s.blk) (blkCol1 s.blk) d).entries

/-- The mode flag such a command makes. -/
def m4 (d : Decoder) (s : State) : Bool :=
  (palette s.params (blkCol0 s.blk) (blkCol1 s.blk) d).mode4

/-- `(p.R - t.R)^2 + (p.G - t.G)^2 + (p.B - t.B)^2` on integers (42_error.md R131). -/
def dist (p t : Rgba) : ℤ :=
  ((p.r.toNat : ℤ) - t.r.toNat) ^ 2 + ((p.g.toNat : ℤ) - t.g.toNat) ^ 2 +
    ((p.b.toNat : ℤ) - t.b.toNat) ^ 2

/-- The same with squared channel weights (42_error.md R136). -/
def wdist (cw : ChannelWeights) (p t : Rgba) : ℤ :=
  (cw.mR.toNat : ℤ) ^ 2 * ((p.r.toNat : ℤ) - t.r.toNat) ^ 2 +
    (cw.mG.toNat : ℤ) ^ 2 * ((p.g.toNat : ℤ) - t.g.toNat) ^ 2 +
    (cw.mB.toNat : ℤ) ^ 2 * ((p.b.toNat : ℤ) - t.b.toNat) ^ 2

/-- What PALGEN leaves (41_palette.md R111): everything not named keeps its value. -/
def palgened (d : Decoder) (s : State) : State :=
  { s with
    pal := pal d s
    status := { s.status with palv := true, errv := false, werrv := false, mode4 := m4 d s } }

/-- What EVAL leaves when it computes `e` (42_error.md R134). -/
def evaluated (d : Decoder) (e : Word) (s : State) : State :=
  { s with
    pal := pal d s
    err := e
    status := { s.status with palv := true, errv := true, werrv := false, mode4 := m4 d s } }

/-- What WEVAL leaves when it computes `e` (42_error.md R137). -/
def wevaluated (d : Decoder) (e : DWord) (s : State) : State :=
  { s with
    pal := pal d s
    werr := e
    status := { s.status with palv := true, errv := false, werrv := true, mode4 := m4 d s } }

/-- The sum of 42_error.md R133. -/
def sumSquares (d : Decoder) (s : State) : ℤ :=
  ∑ k : Fin 16, dist (pal d s)[idx s.blk k] s.tex[k]

/-- The sum of 42_error.md R136. -/
def weightedSumSquares (d : Decoder) (s : State) : ℤ :=
  ∑ k : Fin 16, (s.tw[k].toNat : ℤ) * wdist s.cw (pal d s)[idx s.blk k] s.tex[k]

/-- The state after an input that only raises `ILL` (60_exceptions.md R161). -/
def withIll (rest : List HostEvent) (s : State) : State :=
  { s with
    pending := rest, reply := none, status := { s.status with ill := true }, errorSeen := true }

/-- The state after an input that only raises `ACC`, with what a read returned
(60_exceptions.md R162). -/
def withAcc (rest : List HostEvent) (answer : Option (List Byte)) (s : State) : State :=
  { s with
    pending := rest, reply := answer, status := { s.status with acc := true }, errorSeen := true }

/-- The state after a read that returned the word `v` and did nothing else. -/
def answered (rest : List HostEvent) (v : Word) (s : State) : State :=
  { s with pending := rest, reply := some (bytesOfWord v) }

/-- The aligned unmapped offsets (20_memory.md R47). -/
def Unmapped (off : Nat) : Prop :=
  off % 4 = 0 ∧ ((0x14 ≤ off ∧ off ≤ 0x1C) ∨ (0x30 ≤ off ∧ off ≤ 0x3C) ∨ off = 0x94 ∨
    (0xA0 ≤ off ∧ off ≤ 0xFC))

/-- The offsets of the read-only registers (20_memory.md R45). -/
def ReadOnly (off : Nat) : Prop := off ∈ [0x80, 0x84, 0x88, 0x8C, 0x90, 0x98, 0x9C]

/-- An input that raises an event, by its address and data alone: an access that starts in the window and
is of another width or alignment, or at an unmapped offset, or a write to a read-only register
(60_exceptions.md R162), or an aligned write of an illegal word to `CMD` (R161). That the start alone
decides is the model's choice where an access crosses an edge of the window (log 11): one that starts
inside and leaves it raises an event, one that starts below `BASE` and runs into it raises none; and so
is an event raised by an access of width 0. -/
def RaisesEvent (p : Params) : HostEvent → Prop
  | .reset => False
  | .read addr width =>
    (p.base.addr ≤ addr ∧ addr < p.base.addr + 256) ∧
      (width ≠ 4 ∨ (addr - p.base.addr) % 4 ≠ 0 ∨ Unmapped (addr - p.base.addr))
  | .write addr data =>
    (p.base.addr ≤ addr ∧ addr < p.base.addr + 256) ∧
      (data.length ≠ 4 ∨ (addr - p.base.addr) % 4 ≠ 0 ∨ Unmapped (addr - p.base.addr) ∨
        ReadOnly (addr - p.base.addr) ∨
        (addr - p.base.addr = 0x08 ∧ ∃ w, data = bytesOfWord w ∧ Legal w = false))

/-- `x` lies between two channels, inclusive (41_palette.md R114 (c)). -/
def Between (a b x : Byte) : Prop :=
  min a.toNat b.toNat ≤ x.toNat ∧ x.toNat ≤ max a.toNat b.toNat

/-- All three channels lie between those of two colours. -/
def RgbBetween (a b : Rgba) (x : Rgb) : Prop :=
  Between a.r b.r x.r ∧ Between a.g b.g x.g ∧ Between a.b b.b x.b

/-- The registers a host reads and writes (20_memory.md R41, `RW`). -/
def IsOperand : WindowReg → Prop
  | .blkLo => True
  | .blkHi => True
  | .cmd => False
  | .status => False
  | .cw => True
  | .tw _ => True
  | .tex _ => True
  | .pal _ => False
  | .err => False
  | .werrLo => False
  | .werrHi => False

/-- A texel and a palette entry agree in R, G and B (42_error.md R140). -/
def SameRgb (p t : Rgba) : Prop := p.r = t.r ∧ p.g = t.g ∧ p.b = t.b

/-- The host sequence of `evaluate_error(raw_rgba, block, decoder)` (30_encoding.md R70), as bytes:
the 8 block bytes, the 64 texel bytes, the command, the read of `ERR`. -/
def evaluateError (p : Params) (block : Vector Byte 8) (raw : Vector Byte 64) (d : Decoder) :
    List HostEvent :=
  [.write (p.base.addr + 0x00) [block[0], block[1], block[2], block[3]],
   .write (p.base.addr + 0x04) [block[4], block[5], block[6], block[7]]] ++
  (List.finRange 16).map (fun k => .write (p.base.addr + 0x40 + 4 * k.val)
    [raw[4 * k.val], raw[4 * k.val + 1], raw[4 * k.val + 2], raw[4 * k.val + 3]]) ++
  [writeAt p 0x08 (encodeWord (commandOf .eval d)), readAt p 0x90]

/-- Texel `k` of a raw block: bytes `4k` to `4k+3` are R, G, B, A (20_memory.md R43). -/
def rawTexel (raw : Vector Byte 64) (k : Fin 16) : Rgba :=
  ⟨raw[4 * k.val], raw[4 * k.val + 1], raw[4 * k.val + 2], raw[4 * k.val + 3]⟩

/-- A 16-bit field from its two bytes, the first one low (20_memory.md R42). -/
def halfOf (lo hi : Byte) : Half := hi ++ lo

/-- Index `k` of a block: bits 2k+1:2k of its last four bytes (42_error.md R130). -/
def rawIdx (block : Vector Byte 8) (k : Fin 16) : Fin 4 :=
  ⟨((block[4].toNat + 2 ^ 8 * block[5].toNat + 2 ^ 16 * block[6].toNat + 2 ^ 24 * block[7].toNat) /
    4 ^ k.val) % 4, Nat.mod_lt _ (by decide)⟩

end Sys2Proof.Claims

open Sys2Proof.Claims

/-! ## Encoding -/

/-- 30_encoding.md R66, R68: the decoder reads each of the table's twelve words as its row. -/
def Obligations.TableWordsDecodeToTheirRows : Prop :=
  decodeTableWord 32 0x00 = some .nopRef ∧ decodeTableWord 32 0x10 = some .nopVa ∧
  decodeTableWord 32 0x20 = some .nopVb ∧ decodeTableWord 32 0x01 = some .palgenRef ∧
  decodeTableWord 32 0x11 = some .palgenVa ∧ decodeTableWord 32 0x21 = some .palgenVb ∧
  decodeTableWord 32 0x02 = some .evalRef ∧ decodeTableWord 32 0x12 = some .evalVa ∧
  decodeTableWord 32 0x22 = some .evalVb ∧ decodeTableWord 32 0x03 = some .wevalRef ∧
  decodeTableWord 32 0x13 = some .wevalVa ∧ decodeTableWord 32 0x23 = some .wevalVb

/-- 30_encoding.md R64: which words are legal, by their fields and as a list. -/
def Obligations.LegalWordsAreExactlyTwelve : Prop :=
  (∀ w : Word,
    ((∃ i, decodeWord w = .ok i) ↔
      w.extractLsb' 6 26 = 0 ∧ w.extractLsb' 4 2 ≠ 3 ∧ (w.extractLsb' 0 4).toNat ≤ 3) ∧
    ((∃ i, decodeWord w = .ok i) ↔
      w ∈ [0x00, 0x01, 0x02, 0x03, 0x10, 0x11, 0x12, 0x13, 0x20, 0x21, 0x22, 0x23])) ∧
  decodeWord 0x10 = .ok .nopVa ∧ decodeWord 0x20 = .ok .nopVb ∧ ¬∃ i, decodeWord 0x30 = .ok i

/-- Decoder and encoder agree, on bytes in both directions and on words (30_encoding.md R60 to R66). -/
def Obligations.DecodeAndEncodeAgree : Prop :=
  (∀ (i : Instr) (rest : List Byte), i.wellFormed = true →
    decodeBytes (encode i ++ rest) = .ok (i, rest)) ∧
  (∀ (bytes rest : List Byte) (i : Instr),
    decodeBytes bytes = .ok (i, rest) → bytes = encode i ++ rest) ∧
  (∀ (w : Word) (i : Instr), decodeWord w = .ok i ↔ w = encodeWord i)

/-- 30_encoding.md R66: match and mask, per row and per command. -/
def Obligations.CommandWordMatchesItsMask : Prop :=
  ∀ (w : Word) (o : Op),
    let opNumber : Word := match o with
      | .nop => 0x0#32
      | .palgen => 0x1#32
      | .eval => 0x2#32
      | .weval => 0x3#32
    (∀ d : Decoder,
      let decBits : Word := match d with
        | .reference => 0x00#32
        | .vendorA => 0x10#32
        | .vendorB => 0x20#32
      (decodeWord w = .ok (commandOf o d) ↔ w &&& 0xFFFFFFFF#32 = opNumber ||| decBits)) ∧
    ((∃ d, decodeWord w = .ok (commandOf o d)) ↔
      w &&& 0xFFFFFFCF#32 = opNumber ∧ w.extractLsb' 4 2 ≠ 3)

/-! ## Steps -/

/-- A step runs the decoded command: when the next input writes to `CMD` four bytes that decode to
`i`, the step is `exec i` after the input is taken off the host's stream. -/
def Obligations.StepRunsTheDecodedCommand : Prop :=
  ∀ (s : State) (rest : List HostEvent) (bytes : List Byte) (i : Instr),
    s.pending = .write (s.params.base.addr + 0x08) bytes :: rest →
    decodeBytes bytes = .ok (i, []) →
    step s = exec i { s with pending := rest, reply := none }

/-- 30_encoding.md R65: `Execute(w)`, by the fields of the word. -/
def Obligations.CommandWriteExecutesByItsFields : Prop :=
  ∀ (s : State) (rest : List HostEvent) (w : Word),
    s.pending = writeAt s.params 0x08 w :: rest →
    (Legal w = false → step s = .next (withIll rest s)) ∧
    (∀ d, Legal w = true → w.extractLsb' 4 2 = decoderCode d →
      (w.extractLsb' 0 4 = 0 → step s = .next (accept rest s)) ∧
      (w.extractLsb' 0 4 = 1 → step s = palgenStep d (accept rest s)) ∧
      (w.extractLsb' 0 4 = 2 → step s = evalStep d (accept rest s)) ∧
      (w.extractLsb' 0 4 = 3 → step s = wevalStep d (accept rest s)))

/-- 60_exceptions.md R161: a reserved bit set, or `dec` = 3, or `op` at least 4. -/
def Obligations.IllegalWordSetsIllAndNothingElse : Prop :=
  ∀ (s : State) (rest : List HostEvent) (w : Word),
    s.pending = writeAt s.params 0x08 w :: rest →
    (∃ k, 6 ≤ k ∧ k ≤ 31 ∧ w.getLsbD k = true) ∨ w.extractLsb' 4 2 = 3 ∨
      4 ≤ (w.extractLsb' 0 4).toNat →
    step s = .next (withIll rest s)

/-- 60_exceptions.md R160, R166: no step faults, refuses or hangs, from any state. -/
def Obligations.EveryStepCompletes : Prop :=
  ∀ s : State, ∃ t, step s = .next t

/-- Completion and frame of all twelve commands: each answers a next state, and writes nothing but
`PAL`, `ERR` (EVAL), `WERR` (WEVAL), `MODE4` and the valid flags (10_state.md R10). -/
def Obligations.CommandsCompleteAndKeepTheRest : Prop :=
  ∀ (i : Instr) (s : State), ∃ t, exec i s = .next t ∧
    t.blk = s.blk ∧ t.tex = s.tex ∧ t.tw = s.tw ∧ t.cw = s.cw ∧
    t.status.ill = s.status.ill ∧ t.status.acc = s.status.acc ∧
    t.params = s.params ∧ t.pending = s.pending ∧ t.reply = s.reply ∧
    t.resetCount = s.resetCount ∧ t.errorSeen = s.errorSeen ∧
    (i.op ≠ .eval → t.err = s.err) ∧ (i.op ≠ .weval → t.werr = s.werr) ∧
    (i.op = .nop → t.pal = s.pal ∧ t.status = s.status)

/-- 10_state.md R28: an operand register keeps its value across every command, read and access error,
until the host overwrites it or a reset. -/
def Obligations.OperandsStayUntilTheHostWritesThem : Prop :=
  ∀ (s t : State) (e : HostEvent) (rest : List HostEvent),
    s.pending = e :: rest → step s = .next t → e ≠ .reset →
    ((∀ v, e ≠ writeAt s.params 0x00 v) → t.blk.extractLsb' 0 32 = s.blk.extractLsb' 0 32) ∧
    ((∀ v, e ≠ writeAt s.params 0x04 v) → t.blk.extractLsb' 32 32 = s.blk.extractLsb' 32 32) ∧
    (∀ k : Fin 16, (∀ v, e ≠ writeAt s.params (0x40 + 4 * k.val) v) → t.tex[k] = s.tex[k]) ∧
    (∀ k : Fin 16, (∀ v, e ≠ writeAt s.params (0x20 + 4 * (k.val / 4)) v) → t.tw[k] = s.tw[k]) ∧
    ((∀ v, e ≠ writeAt s.params 0x10 v) → t.cw = s.cw)

/-! ## The commands -/

/-- 43_control.md R150. -/
def Obligations.NopChangesNothing : Prop :=
  (decodeWord 0x00 = .ok .nopRef ∧ decodeWord 0x10 = .ok .nopVa ∧ decodeWord 0x20 = .ok .nopVb) ∧
  (¬∃ i, decodeWord 0x30 = .ok i) ∧ (¬∃ i, decodeWord 0x40 = .ok i) ∧
  ∀ s : State, exec .nopRef s = .next s ∧ exec .nopVa s = .next s ∧ exec .nopVb s = .next s

/-- 41_palette.md R111. -/
def Obligations.PalgenWritesPaletteAndFlags : Prop :=
  (decodeWord 0x01 = .ok .palgenRef ∧ decodeWord 0x11 = .ok .palgenVa ∧
    decodeWord 0x21 = .ok .palgenVb) ∧
  ∀ s : State,
    exec .palgenRef s = .next (palgened .reference s) ∧
    exec .palgenVa s = .next (palgened .vendorA s) ∧
    exec .palgenVb s = .next (palgened .vendorB s)

/-- 42_error.md R134, R133: `ERR` is the sum itself, which 32 bits hold. -/
def Obligations.EvalWritesTheSumOfSquares : Prop :=
  (decodeWord 0x02 = .ok .evalRef ∧ decodeWord 0x12 = .ok .evalVa ∧
    decodeWord 0x22 = .ok .evalVb) ∧
  ∀ s : State, ∃ eRef eVa eVb : Word,
    exec .evalRef s = .next (evaluated .reference eRef s) ∧
    exec .evalVa s = .next (evaluated .vendorA eVa s) ∧
    exec .evalVb s = .next (evaluated .vendorB eVb s) ∧
    (eRef.toNat : ℤ) = sumSquares .reference s ∧ (eVa.toNat : ℤ) = sumSquares .vendorA s ∧
    (eVb.toNat : ℤ) = sumSquares .vendorB s

/-- 42_error.md R137, R136: `WERR` is the sum itself, which 64 bits hold. -/
def Obligations.WevalWritesTheWeightedSum : Prop :=
  (decodeWord 0x03 = .ok .wevalRef ∧ decodeWord 0x13 = .ok .wevalVa ∧
    decodeWord 0x23 = .ok .wevalVb) ∧
  ∀ s : State, ∃ eRef eVa eVb : DWord,
    exec .wevalRef s = .next (wevaluated .reference eRef s) ∧
    exec .wevalVa s = .next (wevaluated .vendorA eVa s) ∧
    exec .wevalVb s = .next (wevaluated .vendorB eVb s) ∧
    (eRef.toNat : ℤ) = weightedSumSquares .reference s ∧
    (eVa.toNat : ℤ) = weightedSumSquares .vendorA s ∧
    (eVb.toNat : ℤ) = weightedSumSquares .vendorB s

/-! ## Unpacking, expansion, mode -/

/-- 40_unpack_expand.md R80. -/
def Obligations.EndpointUnpacksIntoItsFields : Prop :=
  (∀ c : Half, c.toNat = (unpack565 c).r5.toNat * 2048 + (unpack565 c).g6.toNat * 32 +
    (unpack565 c).b5.toNat) ∧
  Function.Bijective unpack565

/-- 40_unpack_expand.md R81, R82: shift and or, and the sum that it equals. -/
def Obligations.ExpansionsReplicateHighBits : Prop :=
  (∀ c : BitVec 5, (expand5 c).toNat = (c.toNat <<< 3 ||| c.toNat >>> 2) ∧
    (expand5 c).toNat = 8 * c.toNat + c.toNat / 4) ∧
  (∀ c : BitVec 6, (expand6 c).toNat = (c.toNat <<< 2 ||| c.toNat >>> 4) ∧
    (expand6 c).toNat = 4 * c.toNat + c.toNat / 16) ∧
  (expand5 0).toNat = 0 ∧ (expand5 31).toNat = 255 ∧ (expand6 0).toNat = 0 ∧
  (expand6 63).toNat = 255

/-- 40_unpack_expand.md R83. -/
def Obligations.ExpansionsAreStrictlyIncreasing : Prop :=
  (∀ a b : BitVec 5, a.toNat < b.toNat → (expand5 a).toNat < (expand5 b).toNat) ∧
  (∀ a b : BitVec 6, a.toNat < b.toNat → (expand6 a).toNat < (expand6 b).toNat) ∧
  Function.Injective expand5 ∧ Function.Injective expand6 ∧
  (expand5 3).toNat = 24 ∧
  (∀ c : BitVec 5, (expand5 c).toNat = 33 * c.toNat / 4) ∧
  (∀ c : BitVec 6, (expand6 c).toNat = 65 * c.toNat / 16)

/-- 40_unpack_expand.md R84. -/
def Obligations.EndpointExpandsToAnOpaqueColour : Prop :=
  ∀ c : Half,
    expand565 c = ⟨expand5 (c.extractLsb' 11 5), expand6 (c.extractLsb' 5 6),
      expand5 (c.extractLsb' 0 5), 255⟩ ∧
    (expand565 c).toWord.toNat = 0xFF000000 ||| (expand565 c).b.toNat <<< 16 |||
      (expand565 c).g.toNat <<< 8 ||| (expand565 c).r.toNat

/-- 10_state.md R22, 40_unpack_expand.md R85: every palette-making command writes `MODE4` with the
unsigned comparison of the two packed endpoints. -/
def Obligations.ModeFlagComparesPackedEndpoints : Prop :=
  ∀ (i : Instr) (s : State), i.op ≠ .nop → ∃ t, exec i s = .next t ∧
    (t.status.mode4 = true ↔ (s.blk.extractLsb' 0 16).toNat > (s.blk.extractLsb' 16 16).toNat)

/-! ## Palettes: the nine commands PALGEN, EVAL, WEVAL under each decoder -/

/-- 41_palette.md R100. -/
def Obligations.EntriesZeroAndOneAreTheEndpoints : Prop :=
  ∀ (i : Instr) (s : State), i.op ≠ .nop → ∃ t, exec i s = .next t ∧
    t.pal[0] = expand565 (s.blk.extractLsb' 0 16) ∧
    t.pal[1] = expand565 (s.blk.extractLsb' 16 16) ∧
    (t.status.mode4 = true ↔ FourColor s)

/-- 41_palette.md R101. -/
def Obligations.AlphaAndTheTransparentEntry : Prop :=
  ∀ (i : Instr) (s : State), i.op ≠ .nop → ∃ t, exec i s = .next t ∧
    t.pal[0].a = 255 ∧ t.pal[1].a = 255 ∧ t.pal[2].a = 255 ∧
    (FourColor s → t.pal[3].a = 255) ∧
    (¬FourColor s → t.pal[3] = ⟨0, 0, 0, 0⟩ ∧ t.pal[3].toWord = 0)

/-- 41_palette.md R102. -/
def Obligations.ReferenceFourColorEntries : Prop :=
  ∀ (i : Instr) (s : State), i ∈ [Instr.palgenRef, .evalRef, .wevalRef] → FourColor s →
    ∃ t, exec i s = .next t ∧ ∀ c ∈ channels,
      (c t.pal[2]).toNat = (2 * (c (p0 s)).toNat + (c (p1 s)).toNat) / 3 ∧
      (c t.pal[3]).toNat = ((c (p0 s)).toNat + 2 * (c (p1 s)).toNat) / 3 ∧
      Between (c (p0 s)) (c (p1 s)) (c t.pal[2]) ∧ Between (c (p0 s)) (c (p1 s)) (c t.pal[3])

/-- 41_palette.md R103. -/
def Obligations.ReferenceThreeColorEntries : Prop :=
  ∀ (i : Instr) (s : State), i ∈ [Instr.palgenRef, .evalRef, .wevalRef] → ¬FourColor s →
    ∃ t, exec i s = .next t ∧ t.pal[3] = ⟨0, 0, 0, 0⟩ ∧
      (∀ c ∈ channels, (c t.pal[2]).toNat = ((c (p0 s)).toNat + (c (p1 s)).toNat) / 2) ∧
      (s.blk.extractLsb' 0 16 = s.blk.extractLsb' 16 16 →
        t.pal[2] = t.pal[0] ∧ t.pal[2] = t.pal[1])

/-- 41_palette.md R104, for every value of `VB_DIV`. -/
def Obligations.VendorBFourColorEntries : Prop :=
  ∀ (i : Instr) (s : State), i ∈ [Instr.palgenVb, .evalVb, .wevalVb] → FourColor s →
    ∃ t, exec i s = .next t ∧ ∀ c ∈ channels,
      let d2 := 43 * (c (p0 s)).toNat + 21 * (c (p1 s)).toNat + 32
      let d3 := 43 * (c (p1 s)).toNat + 21 * (c (p0 s)).toNat + 32
      (c t.pal[2]).toNat = d2 / s.params.vbDiv.val % 256 ∧
      (c t.pal[3]).toNat = d3 / s.params.vbDiv.val % 256 ∧
      (32 ≤ d2 ∧ d2 ≤ 16352) ∧ (32 ≤ d3 ∧ d3 ≤ 16352) ∧
      (s.params.vbDiv.val = 8 → 4 ≤ d2 / 8 ∧ d2 / 8 ≤ 2044 ∧ 4 ≤ d3 / 8 ∧ d3 / 8 ≤ 2044) ∧
      (s.params.vbDiv.val = 64 → (c t.pal[2]).toNat = d2 / 64 ∧ (c t.pal[3]).toNat = d3 / 64)

/-- 41_palette.md R105. -/
def Obligations.VendorBThreeColorEntries : Prop :=
  ∀ (i : Instr) (s : State), i ∈ [Instr.palgenVb, .evalVb, .wevalVb] → ¬FourColor s →
    ∃ t, exec i s = .next t ∧ t.pal[3] = ⟨0, 0, 0, 0⟩ ∧
      (∀ c ∈ channels,
        (c t.pal[2]).toNat = ((c (p0 s)).toNat + (c (p1 s)).toNat + 1) / 2 ∧
        (c t.pal[2]).toNat = ((c (p0 s)).toNat + (c (p1 s)).toNat) / 2 +
          ((c (p0 s)).toNat + (c (p1 s)).toNat) % 2) ∧
      (s.blk.extractLsb' 0 16 = s.blk.extractLsb' 16 16 → t.pal[2] = t.pal[0])

/-- 41_palette.md R106, under the default instance of `PaletteVA`. -/
def Obligations.VendorAFourColorRedAndBlue : Prop :=
  ∀ (i : Instr) (s : State), i ∈ [Instr.palgenVa, .evalVa, .wevalVa] → FourColor s →
    s.params.paletteVA = .reconstruction →
    ∃ t, exec i s = .next t ∧
      let f0 := unpack565 (s.blk.extractLsb' 0 16)
      let f1 := unpack565 (s.blk.extractLsb' 16 16)
      t.pal[2].r.toNat = (2 * f0.r5.toNat + f1.r5.toNat) * 22 / 8 ∧
      t.pal[2].b.toNat = (2 * f0.b5.toNat + f1.b5.toNat) * 22 / 8 ∧
      t.pal[3].r.toNat = (2 * f1.r5.toNat + f0.r5.toNat) * 22 / 8 ∧
      t.pal[3].b.toNat = (2 * f1.b5.toNat + f0.b5.toNat) * 22 / 8

/-- 41_palette.md R107, under the default instance of `PaletteVA`. The inner division truncates toward
zero; the dividends are at least 128. -/
def Obligations.VendorAFourColorGreen : Prop :=
  ∀ (i : Instr) (s : State), i ∈ [Instr.palgenVa, .evalVa, .wevalVa] → FourColor s →
    s.params.paletteVA = .reconstruction →
    ∃ t, exec i s = .next t ∧
      let g0 : ℤ := (p0 s).g.toNat
      let g1 : ℤ := (p1 s).g.toNat
      let n2 := 256 * g0 + (g1 - g0).tdiv 4 + 128 + 80 * (g1 - g0)
      let n3 := 256 * g1 - (g1 - g0).tdiv 4 + 128 - 80 * (g1 - g0)
      (t.pal[2].g.toNat : ℤ) = n2 / 256 ∧ (t.pal[3].g.toNat : ℤ) = n3 / 256 ∧
      128 ≤ n2 ∧ 128 ≤ n3

/-- 41_palette.md R108, under the default instance of `PaletteVA`, for every `VA_G3_COEF` under which
the green is a u8; the default 128 is one. -/
def Obligations.VendorAThreeColorEntries : Prop :=
  ∀ (i : Instr) (s : State), i ∈ [Instr.palgenVa, .evalVa, .wevalVa] → ¬FourColor s →
    s.params.paletteVA = .reconstruction →
    ∃ t, exec i s = .next t ∧ t.pal[3] = ⟨0, 0, 0, 0⟩ ∧
      let f0 := unpack565 (s.blk.extractLsb' 0 16)
      let f1 := unpack565 (s.blk.extractLsb' 16 16)
      let g0 : ℤ := (p0 s).g.toNat
      let g1 : ℤ := (p1 s).g.toNat
      let q := (256 * g0 + (g1 - g0).tdiv 4 + 128 + s.params.vaG3Coef * (g1 - g0)).tdiv 256
      t.pal[2].r.toNat = (f0.r5.toNat + f1.r5.toNat) * 33 / 8 ∧
      t.pal[2].b.toNat = (f0.b5.toNat + f1.b5.toNat) * 33 / 8 ∧
      (0 ≤ q ∧ q ≤ 255 → (t.pal[2].g.toNat : ℤ) = q) ∧
      (s.params.vaG3Coef = 128 → 0 ≤ q ∧ q ≤ 255) ∧
      (s.blk.extractLsb' 0 16 = s.blk.extractLsb' 16 16 → t.pal[2] = t.pal[0])

/-- 41_palette.md R109: what is assumed of Vendor A holds under every instance of `PaletteVA`. -/
def Obligations.VendorAPropertiesOfEveryInstance : Prop :=
  ∀ (i : Instr) (s s' : State), i ∈ [Instr.palgenVa, .evalVa, .wevalVa] →
    s.params.paletteVA = s'.params.paletteVA → s.params.vaG3Coef = s'.params.vaG3Coef →
    s.blk.extractLsb' 0 32 = s'.blk.extractLsb' 0 32 →
    ∃ t t', exec i s = .next t ∧ exec i s' = .next t' ∧ t.pal = t'.pal ∧
      t.pal[0] = p0 s ∧ t.pal[1] = p1 s ∧ t.pal[2].a = 255 ∧
      (FourColor s → t.pal[3].a = 255) ∧ (¬FourColor s → t.pal[3] = ⟨0, 0, 0, 0⟩)

/-- 41_palette.md R110: the palette depends on the endpoints, the decoder and the parameters only. -/
def Obligations.PaletteDependsOnEndpointsOnly : Prop :=
  ∀ (i j : Instr) (s s' : State), i.op ≠ .nop → j.op ≠ .nop → i.dec = j.dec →
    s.params = s'.params → s.blk.extractLsb' 0 32 = s'.blk.extractLsb' 0 32 →
    ∃ t t', exec i s = .next t ∧ exec j s' = .next t' ∧ t.pal = t'.pal ∧
      t.status.mode4 = t'.status.mode4

/-- 41_palette.md R112: no channel of an endpoint enters another channel of an entry (for Vendor A: of
the default instance), as long as the mode stays. -/
def Obligations.ChannelsDoNotMix : Prop :=
  ∀ (i : Instr) (s s' : State), i.op ≠ .nop → s.params = s'.params →
    (i.dec = .vendorA → s.params.paletteVA = .reconstruction) → (FourColor s ↔ FourColor s') →
    ∃ t t', exec i s = .next t ∧ exec i s' = .next t' ∧
      ((p0 s).r = (p0 s').r → (p1 s).r = (p1 s').r → ∀ n : Fin 4, t.pal[n].r = t'.pal[n].r) ∧
      ((p0 s).g = (p0 s').g → (p1 s).g = (p1 s').g → ∀ n : Fin 4, t.pal[n].g = t'.pal[n].g) ∧
      ((p0 s).b = (p0 s').b → (p1 s).b = (p1 s').b → ∀ n : Fin 4, t.pal[n].b = t'.pal[n].b) ∧
      (∀ n : Fin 4, t.pal[n].a = t'.pal[n].a)

/-- 41_palette.md R114: equal endpoints, mirror, and between the endpoints. Statements about Vendor A
are about its default instance; (c) at the default `VA_G3_COEF`. -/
def Obligations.LawsOfThePalette : Prop :=
  (∀ (p : Params) (c : Half) (d : Decoder), (d = .vendorA → p.paletteVA = .reconstruction) →
    (palette p c c d).mode4 = false ∧
    (palette p c c d).entries[2] = (palette p c c d).entries[0] ∧
    (palette p c c d).entries[0] = (palette p c c d).entries[1]) ∧
  (∀ (p : Params) (c0 c1 : Half) (d : Decoder), (d = .vendorA → p.paletteVA = .reconstruction) →
    entries4 p c1 c0 d = ((entries4 p c0 c1 d).2, (entries4 p c0 c1 d).1)) ∧
  (∀ (p : Params) (c0 c1 : Half) (d : Decoder),
    (d = .vendorA → p.paletteVA = .reconstruction ∧ p.vaG3Coef = 128) →
    RgbBetween (expand565 c0) (expand565 c1) (entry3 p c0 c1 d) ∧
    ((d = .vendorB → p.vbDiv.val = 64) →
      RgbBetween (expand565 c0) (expand565 c1) (entries4 p c0 c1 d).1 ∧
      RgbBetween (expand565 c0) (expand565 c1) (entries4 p c0 c1 d).2)) ∧
  (∃ (p : Params) (c0 c1 : Half), p.vbDiv.val = 8 ∧ mode4 c0 c1 = true ∧
    ¬RgbBetween (expand565 c0) (expand565 c1) (entries4 p c0 c1 .vendorB).1) ∧
  (∀ div : Divisor, div.val = 8 → (vb4Entry2 div 0 0).toNat = 4 ∧ (vb4Entry2 div 33 33).toNat = 12 ∧
    (vb4Entry2 div 255 0).toNat = 94 ∧ (vb4Entry3 div 255 0).toNat = 161)

/-! ## Error evaluation -/

/-- 42_error.md R130. -/
def Obligations.IndexIsTwoBitsOfTheBlock : Prop :=
  ∀ (blk : DWord) (k : Fin 16),
    (idx blk k).val = (blk.extractLsb' 32 32).toNat / 4 ^ k.val % 4 ∧
    (idx blk k).val = (blk.extractLsb' (32 + 2 * k.val) 2).toNat

/-- 42_error.md R132: no command reads the alpha of a texel. -/
def Obligations.TexelAlphaIsNeverRead : Prop :=
  ∀ (i : Instr) (s : State) (tex : Vector Rgba 16), (∀ k : Fin 16, SameRgb s.tex[k] tex[k]) →
    ∃ t, exec i s = .next t ∧ exec i { s with tex := tex } = .next { t with tex := tex }

/-- 42_error.md R135. -/
def Obligations.ErrNeverExceedsItsBound : Prop :=
  (∀ (i : Instr) (s : State), i.op = .eval → ∃ t, exec i s = .next t ∧
    (t.err.toNat : ℤ) = sumSquares i.dec s ∧ t.err.toNat ≤ 3121200 ∧ t.err.toNat < 2 ^ 22) ∧
  (∃ s t, exec .evalRef s = .next t ∧ t.err.toNat = 0) ∧
  (∃ s t, exec .evalRef s = .next t ∧ t.err.toNat = 3121200)

/-- 42_error.md R138, with its intermediate bounds. -/
def Obligations.WerrNeverExceedsItsBound : Prop :=
  (∀ (i : Instr) (s : State), i.op = .weval → ∃ t, exec i s = .next t ∧
    (t.werr.toNat : ℤ) = weightedSumSquares i.dec s ∧
    t.werr.toNat ≤ 51753787650000 ∧ t.werr.toNat < 2 ^ 46) ∧
  (∀ (m a b : Byte), m.toNat * m.toNat ≤ 65025 ∧
    (m.toNat : ℤ) ^ 2 * ((a.toNat : ℤ) - b.toNat) ^ 2 ≤ 4228250625) ∧
  (∀ (cw : ChannelWeights) (p t : Rgba) (w : Byte),
    wdist cw p t ≤ 12684751875 ∧ (w.toNat : ℤ) * wdist cw p t ≤ 3234611728125)

/-- 42_error.md R140, for every instance of `PaletteVA` and every `VB_DIV`. -/
def Obligations.DecodeThenEvaluateIsZero : Prop :=
  ∀ (i : Instr) (s : State), (∀ k : Fin 16, SameRgb (pal i.dec s)[idx s.blk k] s.tex[k]) →
    ∃ t, exec i s = .next t ∧ (i.op = .eval → t.err = 0) ∧ (i.op = .weval → t.werr = 0)

/-- 42_error.md R141. -/
def Obligations.WeightedErrorIsMonotone : Prop :=
  (∀ (i : Instr) (s : State) (tw : Vector Byte 16) (cw : ChannelWeights), i.op = .weval →
    (∀ k : Fin 16, s.tw[k].toNat ≤ tw[k].toNat) → s.cw.mR.toNat ≤ cw.mR.toNat →
    s.cw.mG.toNat ≤ cw.mG.toNat → s.cw.mB.toNat ≤ cw.mB.toNat →
    ∃ t u, exec i s = .next t ∧ exec i { s with tw := tw, cw := cw } = .next u ∧
      t.werr.toNat ≤ u.werr.toNat) ∧
  (∀ (i : Instr) (s : State), i.op = .weval → ∃ t, exec i s = .next t ∧
    (t.werr = 0 ↔ ∀ k : Fin 16, 0 < s.tw[k].toNat →
      (0 < s.cw.mR.toNat → (pal i.dec s)[idx s.blk k].r = s.tex[k].r) ∧
      (0 < s.cw.mG.toNat → (pal i.dec s)[idx s.blk k].g = s.tex[k].g) ∧
      (0 < s.cw.mB.toNat → (pal i.dec s)[idx s.blk k].b = s.tex[k].b)))

/-- 42_error.md R137, corner case: with unit weights WEVAL gives what EVAL gives. -/
def Obligations.UnitWeightsGiveTheUnweightedError : Prop :=
  ∀ (i j : Instr) (s : State), i.op = .eval → j.op = .weval → i.dec = j.dec →
    (∀ k : Fin 16, s.tw[k] = 1) → s.cw = ⟨1, 1, 1⟩ →
    ∃ t u, exec i s = .next t ∧ exec j s = .next u ∧ u.werr.toNat = t.err.toNat

/-- 42_error.md R139: with texel weights `TW[k] / Sw`, channel weights `CW.m_c / Sm` and texel colours
`TEX[k].c / 255`, the weighted error in units of 1/255 squared is `WERR / (Sw * Sm^2)`. -/
def Obligations.WerrScalesToTheRealError : Prop :=
  ∀ (i : Instr) (s : State) (sw sm : ℝ), i.op = .weval → 0 < sw → 0 < sm →
    ∃ t, exec i s = .next t ∧ (t.werr.toNat : ℝ) / (sw * sm ^ 2) =
      ∑ k : Fin 16, ((s.tw[k].toNat : ℝ) / sw) *
        (((s.cw.mR.toNat : ℝ) / sm) ^ 2 *
            (((pal i.dec s)[idx s.blk k].r.toNat : ℝ) - 255 * ((s.tex[k].r.toNat : ℝ) / 255)) ^ 2 +
          ((s.cw.mG.toNat : ℝ) / sm) ^ 2 *
            (((pal i.dec s)[idx s.blk k].g.toNat : ℝ) - 255 * ((s.tex[k].g.toNat : ℝ) / 255)) ^ 2 +
          ((s.cw.mB.toNat : ℝ) / sm) ^ 2 *
            (((pal i.dec s)[idx s.blk k].b.toNat : ℝ) - 255 * ((s.tex[k].b.toNat : ℝ) / 255)) ^ 2)

/-- 00_scope.md R9: what a command writes depends on the operand registers and nothing else. -/
def Obligations.ResultsDependOnOperandsOnly : Prop :=
  ∀ (i : Instr) (s s' : State), i.op ≠ .nop → s.params = s'.params →
    s.blk = s'.blk → s.tex = s'.tex → s.tw = s'.tw → s.cw = s'.cw →
    ∃ t t', exec i s = .next t ∧ exec i s' = .next t' ∧ t.pal = t'.pal ∧
      t.status.mode4 = t'.status.mode4 ∧ (i.op = .eval → t.err = t'.err) ∧
      (i.op = .weval → t.werr = t'.werr)

/-! ## The register window -/

/-- 20_memory.md R44. -/
def Obligations.AlignedReadReturnsItsRegister : Prop :=
  ∀ (s : State) (rest : List HostEvent) (off : Nat), s.pending = readAt s.params off :: rest →
    (off = 0x00 → step s = .next (answered rest (s.blk.extractLsb' 0 32) s)) ∧
    (off = 0x04 → step s = .next (answered rest (s.blk.extractLsb' 32 32) s)) ∧
    (off = 0x08 → step s = .next (answered rest 0 s)) ∧
    (off = 0x0C → ∃ v : Word, step s = .next (answered rest v s) ∧
      v.getLsbD 0 = s.status.palv ∧ v.getLsbD 1 = s.status.errv ∧ v.getLsbD 2 = s.status.werrv ∧
      v.getLsbD 3 = s.status.mode4 ∧ v.getLsbD 4 = s.status.ill ∧ v.getLsbD 5 = s.status.acc ∧
      v.extractLsb' 6 26 = 0) ∧
    (off = 0x10 → step s = .next (answered rest ((0 : Byte) ++ s.cw.mB ++ s.cw.mG ++ s.cw.mR) s)) ∧
    (∀ j : Fin 4, off = 0x20 + 4 * j.val → step s = .next (answered rest
      (s.tw[4 * j.val + 3] ++ s.tw[4 * j.val + 2] ++ s.tw[4 * j.val + 1] ++ s.tw[4 * j.val]) s)) ∧
    (∀ k : Fin 16, off = 0x40 + 4 * k.val → step s = .next (answered rest
      (s.tex[k].a ++ s.tex[k].b ++ s.tex[k].g ++ s.tex[k].r) s)) ∧
    (∀ n : Fin 4, off = 0x80 + 4 * n.val → step s = .next (answered rest
      (s.pal[n].a ++ s.pal[n].b ++ s.pal[n].g ++ s.pal[n].r) s)) ∧
    (off = 0x90 → step s = .next (answered rest s.err s)) ∧
    (off = 0x98 → step s = .next (answered rest (s.werr.extractLsb' 0 32) s)) ∧
    (off = 0x9C → step s = .next (answered rest (s.werr.extractLsb' 32 32) s)) ∧
    (Unmapped off → step s = .next (withAcc rest (some [0, 0, 0, 0]) s))

/-- 20_memory.md R45. -/
def Obligations.AlignedWriteChangesItsRegister : Prop :=
  ∀ (s : State) (rest : List HostEvent) (off : Nat) (v : Word),
    s.pending = writeAt s.params off v :: rest →
    (off = 0x00 → step s = .next
      { s with pending := rest, reply := none, blk := s.blk.extractLsb' 32 32 ++ v }) ∧
    (off = 0x04 → step s = .next
      { s with pending := rest, reply := none, blk := v ++ s.blk.extractLsb' 0 32 }) ∧
    (off = 0x08 → step s = execute v { s with pending := rest, reply := none }) ∧
    (off = 0x0C → step s = .next
      { s with
        pending := rest, reply := none
        status := { s.status with
          ill := s.status.ill && !v.getLsbD 4, acc := s.status.acc && !v.getLsbD 5 } }) ∧
    (off = 0x10 → step s = .next
      { s with
        pending := rest, reply := none
        cw := ⟨v.extractLsb' 0 8, v.extractLsb' 8 8, v.extractLsb' 16 8⟩ }) ∧
    (∀ j : Fin 4, off = 0x20 + 4 * j.val → ∃ tw : Vector Byte 16,
      step s = .next { s with pending := rest, reply := none, tw := tw } ∧
      tw[4 * j.val] = v.extractLsb' 0 8 ∧ tw[4 * j.val + 1] = v.extractLsb' 8 8 ∧
      tw[4 * j.val + 2] = v.extractLsb' 16 8 ∧ tw[4 * j.val + 3] = v.extractLsb' 24 8 ∧
      ∀ k : Fin 16, k.val / 4 ≠ j.val → tw[k] = s.tw[k]) ∧
    (∀ k : Fin 16, off = 0x40 + 4 * k.val → ∃ tex : Vector Rgba 16,
      step s = .next { s with pending := rest, reply := none, tex := tex } ∧
      tex[k] = ⟨v.extractLsb' 0 8, v.extractLsb' 8 8, v.extractLsb' 16 8, v.extractLsb' 24 8⟩ ∧
      ∀ m : Fin 16, m ≠ k → tex[m] = s.tex[m]) ∧
    (ReadOnly off → step s = .next (withAcc rest none s)) ∧
    (Unmapped off → step s = .next (withAcc rest none s))

/-- 20_memory.md R46: an access that starts inside the window and is not an aligned 32-bit word. That
the start alone decides, also for an access that leaves the window or has width 0, is the model's
(log 11). -/
def Obligations.UnsupportedAccessOnlySetsAcc : Prop :=
  (∀ (s : State) (rest : List HostEvent) (off width : Nat),
    s.pending = .read (s.params.base.addr + off) width :: rest → off < 256 →
    width ≠ 4 ∨ off % 4 ≠ 0 →
    step s = .next (withAcc rest (some (List.replicate width 0)) s)) ∧
  (∀ (s : State) (rest : List HostEvent) (off : Nat) (data : List Byte),
    s.pending = .write (s.params.base.addr + off) data :: rest → off < 256 →
    data.length ≠ 4 ∨ off % 4 ≠ 0 →
    step s = .next (withAcc rest none s))

/-- 20_memory.md R47. -/
def Obligations.UnmappedOffsetOnlySetsAcc : Prop :=
  ∀ (s : State) (rest : List HostEvent) (off : Nat) (v : Word), Unmapped off →
    (s.pending = readAt s.params off :: rest →
      step s = .next (withAcc rest (some [0, 0, 0, 0]) s)) ∧
    (s.pending = writeAt s.params off v :: rest → step s = .next (withAcc rest none s))

/-- 20_memory.md R40: an access that starts outside the window changes nothing. The model's choices: that
the unit returns nothing to it (log 10), and that the start alone decides, so that an access which
starts below `BASE` and runs into the window is one of these (log 11). -/
def Obligations.AccessOutsideTheWindowChangesNothing : Prop :=
  ∀ (s : State) (rest : List HostEvent) (addr width : Nat) (data : List Byte),
    addr < s.params.base.addr ∨ s.params.base.addr + 256 ≤ addr →
    s.pending = .read addr width :: rest ∨ s.pending = .write addr data :: rest →
    step s = .next { s with pending := rest, reply := none }

/-- 20_memory.md R42, R43: byte `i` of a register is its bits 8i+7:8i; so the block's bytes and the
texels' bytes stand in the window in the order the source gives them. -/
def Obligations.BytesAreLittleEndian : Prop :=
  (∀ (v : Word) (i : Fin 4), (bytesOfWord v)[i.val]? = some (v.extractLsb' (8 * i.val) 8)) ∧
  (∀ (s : State) (rest : List HostEvent) (b0 b1 b2 b3 : Byte),
    (s.pending = .write (s.params.base.addr + 0x00) [b0, b1, b2, b3] :: rest →
      ∃ t, step s = .next t ∧
        (t.blk.extractLsb' 0 16).toNat = b0.toNat + b1.toNat * 2 ^ 8 ∧
        (t.blk.extractLsb' 16 16).toNat = b2.toNat + b3.toNat * 2 ^ 8) ∧
    (s.pending = .write (s.params.base.addr + 0x04) [b0, b1, b2, b3] :: rest →
      ∃ t, step s = .next t ∧ (t.blk.extractLsb' 32 32).toNat =
        b0.toNat + b1.toNat * 2 ^ 8 + b2.toNat * 2 ^ 16 + b3.toNat * 2 ^ 24) ∧
    (∀ k : Fin 16,
      s.pending = .write (s.params.base.addr + (0x40 + 4 * k.val)) [b0, b1, b2, b3] :: rest →
      ∃ t, step s = .next t ∧ t.tex[k] = ⟨b0, b1, b2, b3⟩))

/-- 20_memory.md R50 (a read returns the value left by the latest earlier write), R44, R45. -/
def Obligations.WriteThenReadReturnsTheWord : Prop :=
  ∀ (s : State) (rest : List HostEvent) (r : WindowReg) (v : Word), IsOperand r →
    s.pending = writeAt s.params r.offset v :: readAt s.params r.offset :: rest →
    ∃ t u, step s = .next t ∧ step t = .next u ∧
      u.reply = some (bytesOfWord (if r = .cw then v &&& 0x00FFFFFF else v)) ∧ u.pending = rest

/-! ## Status -/

/-- 60_exceptions.md R167. -/
def Obligations.StickyFlagsStayAndGateNothing : Prop :=
  (∀ (s t : State) (e : HostEvent) (rest : List HostEvent),
    s.pending = e :: rest → step s = .next t → e ≠ .reset →
    ((∀ v, e = writeAt s.params 0x0C v → v.getLsbD 4 = false) →
      s.status.ill = true → t.status.ill = true) ∧
    ((∀ v, e = writeAt s.params 0x0C v → v.getLsbD 5 = false) →
      s.status.acc = true → t.status.acc = true)) ∧
  (∀ (i : Instr) (s : State) (a b : Bool), ∃ t, exec i s = .next t ∧
    exec i { s with status := { s.status with ill := a, acc := b } } =
      .next { t with status := { t.status with ill := a, acc := b } })

/-- 43_control.md R151. -/
def Obligations.StatusWriteOnlyClearsStickyFlags : Prop :=
  ∀ (s : State) (rest : List HostEvent) (v : Word), s.pending = writeAt s.params 0x0C v :: rest →
    ∃ t, step s = .next t ∧
      (t.status.ill = true ↔ s.status.ill = true ∧ v.getLsbD 4 = false) ∧
      (t.status.acc = true ↔ s.status.acc = true ∧ v.getLsbD 5 = false) ∧
      t.status.palv = s.status.palv ∧ t.status.errv = s.status.errv ∧
      t.status.werrv = s.status.werrv ∧ t.status.mode4 = s.status.mode4 ∧
      t = { s with pending := rest, reply := none, status := t.status }

/-- 10_state.md R19, R20: what sets and clears `PALV` and `ERRV` (and `WERRV`, R21), and that nothing
else does. -/
def Obligations.ValidFlagsFollowTheLatestCommand : Prop :=
  (∀ (s : State) (rest : List HostEvent) (i : Instr),
    s.pending = writeAt s.params 0x08 (encodeWord i) :: rest → ∃ t, step s = .next t ∧
      (i.op = .nop → t.status = s.status) ∧
      (i.op ≠ .nop → t.status.palv = true) ∧
      (i.op = .eval → t.status.errv = true ∧ t.status.werrv = false ∧ t.werr = s.werr) ∧
      (i.op = .weval → t.status.errv = false ∧ t.status.werrv = true ∧ t.err = s.err) ∧
      (i.op = .palgen → t.status.errv = false ∧ t.status.werrv = false ∧ t.err = s.err ∧
        t.werr = s.werr)) ∧
  (∀ (s t : State) (rest : List HostEvent), s.pending = .reset :: rest → step s = .next t →
    t.status.palv = false ∧ t.status.errv = false ∧ t.status.werrv = false) ∧
  (∀ (s t : State) (e : HostEvent) (rest : List HostEvent),
    s.pending = e :: rest → step s = .next t → e ≠ .reset →
    (∀ i, e ≠ writeAt s.params 0x08 (encodeWord i)) →
    t.status.palv = s.status.palv ∧ t.status.errv = s.status.errv ∧
    t.status.werrv = s.status.werrv ∧ t.status.mode4 = s.status.mode4)

/-- 60_exceptions.md R165. The second clause is about every write that starts at 0x08 to 0x0B: that the
start alone decides, also for one that leaves the window or has width 0, is the model's choice
(log 11). -/
def Obligations.OneTransactionRaisesAtMostOneEvent : Prop :=
  (∀ s t : State, step s = .next t →
    ¬(s.status.ill = false ∧ t.status.ill = true ∧ s.status.acc = false ∧ t.status.acc = true)) ∧
  (∀ (s : State) (rest : List HostEvent) (off : Nat) (data : List Byte),
    s.pending = .write (s.params.base.addr + off) data :: rest → 0x08 ≤ off → off ≤ 0x0B →
    ∃ t, step s = .next t ∧
      (data.length ≠ 4 ∨ off ≠ 0x08 → t.status.acc = true ∧ t.status.ill = s.status.ill) ∧
      (data.length = 4 ∧ off = 0x08 → t.status.acc = s.status.acc))

/-- 70_reset_and_hazards.md R185. -/
def Obligations.ResultsAreSnapshots : Prop :=
  ∀ (s : State) (rest : List HostEvent) (r : WindowReg) (v : Word), IsOperand r →
    s.pending = writeAt s.params r.offset v :: rest →
    ∃ t, step s = .next t ∧ t.pal = s.pal ∧ t.err = s.err ∧ t.werr = s.werr ∧ t.status = s.status

/-! ## Reset, parameters, runs -/

/-- 70_reset_and_hazards.md R180: the flags become 0; the data registers take values of which nothing
is said; the parameters stay (R181) and the inputs that follow are accepted. The ghost bit, which is
the model's own (log 7), keeps its value: it "is never cleared" (60_exceptions.md R168). -/
def Obligations.ResetEventClearsTheFlags : Prop :=
  ∀ (s : State) (rest : List HostEvent), s.pending = .reset :: rest →
    ∃ t, step s = .next t ∧ t.status = ⟨false, false, false, false, false, false⟩ ∧
      t.params = s.params ∧ t.pending = rest ∧ t.errorSeen = s.errorSeen

/-- The state a run begins in. Flags: 10_state.md R29. The zeros are the model's choice (log 1), the
base address too (log 3); the other parameters are the defaults of 00_scope.md R4. -/
def Obligations.StateAfterReset : Prop :=
  State.reset.status = ⟨false, false, false, false, false, false⟩ ∧
  State.reset.blk = 0 ∧ (∀ k : Fin 16, State.reset.tex[k] = ⟨0, 0, 0, 0⟩) ∧
  (∀ k : Fin 16, State.reset.tw[k] = 0) ∧ State.reset.cw = ⟨0, 0, 0⟩ ∧
  (∀ n : Fin 4, State.reset.pal[n] = ⟨0, 0, 0, 0⟩) ∧ State.reset.err = 0 ∧ State.reset.werr = 0 ∧
  State.reset.params.vbDiv.val = 8 ∧ State.reset.params.vaG3Coef = 128 ∧
  State.reset.params.paletteVA = .reconstruction ∧ State.reset.params.base.addr = 0 ∧
  State.reset.pending = [] ∧ State.reset.reply = none ∧ State.reset.errorSeen = false

/-- 10_state.md R27, 70_reset_and_hazards.md R181: no step changes a parameter. -/
def Obligations.ParametersAreConstants : Prop :=
  ∀ s t : State, step s = .next t → t.params = s.params

/-- 70_reset_and_hazards.md R187, R188: a run takes every input the host has issued, in as many steps.
60_exceptions.md R168, on the ghost bit (log 7): after a step it is 1 exactly when it was 1 before or the
step's input raised an event, so no step clears it, a reset included; with no input waiting it stays;
after a run it is 1 exactly when it was 1 before or some input of the run raised an event. From a state
in which a flag that is up was seen (`ErrorsAreSeen`), a run that ends with ghost bit 0 ends with `ILL`
and `ACC` 0. The model's choices: which accesses across an edge of the window, or of width 0, raise an
event (`RaisesEvent`, log 11), and that a step with no input waiting changes nothing (log 12). -/
def Obligations.RunTakesEveryInput : Prop :=
  (∀ (s t : State) (e : HostEvent) (rest : List HostEvent),
    s.pending = e :: rest → step s = .next t →
    (t.errorSeen = true ↔ s.errorSeen = true ∨ RaisesEvent s.params e)) ∧
  (∀ s t : State, s.pending = [] → step s = .next t → t.errorSeen = s.errorSeen) ∧
  (∀ s : State, ∃ t, Sys2Proof.core.run s.pending.length s = .next t ∧ t.pending = [] ∧
    (t.errorSeen = true ↔ s.errorSeen = true ∨ ∃ e ∈ s.pending, RaisesEvent s.params e) ∧
    (ErrorsAreSeen s → t.errorSeen = false → t.status.ill = false ∧ t.status.acc = false))

/-- The invariant of the machine: flags agree with one another and with the ghost bit, and every valid
result register holds what one command computed from one operand state (10_state.md R18 to R22,
00_scope.md R9, 60_exceptions.md R168). -/
def Obligations.EveryStepKeepsTheInvariant : Prop :=
  ∀ s t : State, Inv s → step s = .next t → Inv t

/-- The invariant holds right after reset. -/
def Obligations.InvariantHoldsAfterReset : Prop := Inv State.reset

/-- 30_encoding.md R70: the host sequence for `evaluate_error(raw_rgba, block, decoder)`, from any
state, ends with the reply to the read of `ERR` being the sum of squared differences between the raw
texels and the entries that the block's own bytes select, with the three valid flags of an EVAL. -/
def Obligations.EvaluateErrorComputesItsSum : Prop :=
  ∀ (s : State) (block : Vector Byte 8) (raw : Vector Byte 64) (d : Decoder)
    (rest : List HostEvent),
    s.pending = evaluateError s.params block raw d ++ rest →
    ∃ (t : State) (e : Word), Sys2Proof.core.run 20 s = .next t ∧ t.pending = rest ∧
      t.reply = some (bytesOfWord e) ∧
      (e.toNat : ℤ) = ∑ k : Fin 16, dist
        (palette s.params (halfOf block[0] block[1]) (halfOf block[2] block[3]) d).entries[rawIdx block k]
        (rawTexel raw k) ∧
      t.status.palv = true ∧ t.status.errv = true ∧ t.status.werrv = false ∧
      t.status.ill = s.status.ill ∧ t.status.acc = s.status.acc
end

