-- ==== Sys2Proof/Laws/Encoding.lean ====
section
/-! SUPPORT. Byte order, colour words, and what a decoded word says of its fields. -/

namespace Sys2Proof

theorem wordOfBytes_bytesOfWord (v : Word) :
    wordOfBytes (v.extractLsb' 0 8) (v.extractLsb' 8 8) (v.extractLsb' 16 8) (v.extractLsb' 24 8) = v := by
  apply BitVec.eq_of_getLsbD_eq
  intro i hi
  simp only [wordOfBytes, BitVec.getLsbD_append, BitVec.getLsbD_extractLsb']
  by_cases h1 : i < 8 <;> by_cases h2 : i < 16 <;> by_cases h3 : i < 24 <;>
    simp_all <;> grind

theorem bytesOfWord_wordOfBytes (b0 b1 b2 b3 : Byte) :
    bytesOfWord (wordOfBytes b0 b1 b2 b3) = [b0, b1, b2, b3] := by
  simp only [bytesOfWord, wordOfBytes, List.cons.injEq, and_true]
  refine ⟨?_, ?_, ?_, ?_⟩ <;> apply BitVec.eq_of_getLsbD_eq <;> intro i hi <;>
    simp [BitVec.getLsbD_extractLsb'] <;> grind

@[simp] theorem bytesOfWord_length (v : Word) : (bytesOfWord v).length = 4 := rfl

@[simp] theorem Rgba.toWord_ofWord (v : Word) : (Rgba.ofWord v).toWord = v :=
  wordOfBytes_bytesOfWord v

@[simp] theorem Rgba.ofWord_toWord (c : Rgba) : Rgba.ofWord c.toWord = c := by
  have h := bytesOfWord_wordOfBytes c.r c.g c.b c.a
  simp only [bytesOfWord, wordOfBytes, List.cons.injEq, and_true] at h
  obtain ⟨hr, hg, hb, ha⟩ := h
  cases c
  simp_all [Rgba.ofWord, Rgba.toWord]

/-- The fields of `CW` survive the write and the read back. -/
@[simp] theorem ChannelWeights.ofWord_toWord (c : ChannelWeights) :
    ChannelWeights.ofWord c.toWord = c := by
  have h : c.toWord = Rgba.toWord ⟨c.mR, c.mG, c.mB, 0⟩ := by
    apply BitVec.eq_of_getLsbD_eq
    intro i hi
    simp [ChannelWeights.toWord, Rgba.toWord]
    grind
  have h' := Rgba.ofWord_toWord ⟨c.mR, c.mG, c.mB, 0⟩
  simp only [Rgba.ofWord, Rgba.mk.injEq] at h'
  cases c
  simp_all [ChannelWeights.ofWord]

/-- What a successful decoding says of the word (30_encoding.md R64). -/
theorem decodeWord_ok {w : Word} {i : Instr} (h : decodeWord w = .ok i) :
    rsvField w = 0 ∧ decoderOfField (decField w) = some i.dec ∧ opOfField (opField w) = some i.op := by
  unfold decodeWord at h
  split at h
  · cases h
  next hr =>
    split at h
    · cases h
    next d hd =>
      split at h
      · cases h
      next o ho =>
        cases h
        refine ⟨by simpa using hr, ?_, ?_⟩
        · rw [hd]; cases o <;> cases d <;> rfl
        · rw [ho]; cases o <;> cases d <;> rfl

/-- Decoding four bytes is decoding their word. -/
theorem decodeBytes_four (b0 b1 b2 b3 : Byte) (rest : List Byte) :
    decodeBytes (b0 :: b1 :: b2 :: b3 :: rest) =
      match decodeWord (wordOfBytes b0 b1 b2 b3) with
      | .ok i => .ok (i, rest)
      | .error e => .error e := rfl

@[simp] theorem commandOf_op (o : Op) (d : Decoder) : (commandOf o d).op = o := by
  cases o <;> cases d <;> rfl

@[simp] theorem commandOf_dec (o : Op) (d : Decoder) : (commandOf o d).dec = d := by
  cases o <;> cases d <;> rfl

@[simp] theorem commandOf_op_dec (i : Instr) : commandOf i.op i.dec = i := by
  cases i <;> rfl

end Sys2Proof
end

