-- ==== Sys2Proof/Laws/State.lean ====
section
/-! SUPPORT. One lemma per field per update of the state, and per flag per update of `STATUS`, each true
by `rfl`, so that no later proof unfolds a record update. -/

namespace Sys2Proof.Machine

section takeError

@[simp] theorem takeError_blk (e : ErrorEvent) (s : State) : (takeError e s).blk = s.blk := rfl
@[simp] theorem takeError_tex (e : ErrorEvent) (s : State) : (takeError e s).tex = s.tex := rfl
@[simp] theorem takeError_tw (e : ErrorEvent) (s : State) : (takeError e s).tw = s.tw := rfl
@[simp] theorem takeError_cw (e : ErrorEvent) (s : State) : (takeError e s).cw = s.cw := rfl
@[simp] theorem takeError_pal (e : ErrorEvent) (s : State) : (takeError e s).pal = s.pal := rfl
@[simp] theorem takeError_err (e : ErrorEvent) (s : State) : (takeError e s).err = s.err := rfl
@[simp] theorem takeError_werr (e : ErrorEvent) (s : State) : (takeError e s).werr = s.werr := rfl
@[simp] theorem takeError_status (e : ErrorEvent) (s : State) :
    (takeError e s).status = s.status.raise e := rfl
@[simp] theorem takeError_params (e : ErrorEvent) (s : State) :
    (takeError e s).params = s.params := rfl
@[simp] theorem takeError_pending (e : ErrorEvent) (s : State) :
    (takeError e s).pending = s.pending := rfl
@[simp] theorem takeError_reply (e : ErrorEvent) (s : State) :
    (takeError e s).reply = s.reply := rfl
@[simp] theorem takeError_resetCount (e : ErrorEvent) (s : State) :
    (takeError e s).resetCount = s.resetCount := rfl
@[simp] theorem takeError_errorSeen (e : ErrorEvent) (s : State) :
    (takeError e s).errorSeen = true := rfl

end takeError

section clearSticky

@[simp] theorem clearSticky_blk (v : Word) (s : State) : (clearSticky v s).blk = s.blk := rfl
@[simp] theorem clearSticky_tex (v : Word) (s : State) : (clearSticky v s).tex = s.tex := rfl
@[simp] theorem clearSticky_tw (v : Word) (s : State) : (clearSticky v s).tw = s.tw := rfl
@[simp] theorem clearSticky_cw (v : Word) (s : State) : (clearSticky v s).cw = s.cw := rfl
@[simp] theorem clearSticky_pal (v : Word) (s : State) : (clearSticky v s).pal = s.pal := rfl
@[simp] theorem clearSticky_err (v : Word) (s : State) : (clearSticky v s).err = s.err := rfl
@[simp] theorem clearSticky_werr (v : Word) (s : State) : (clearSticky v s).werr = s.werr := rfl
@[simp] theorem clearSticky_status (v : Word) (s : State) :
    (clearSticky v s).status = s.status.writeOneToClear v := rfl
@[simp] theorem clearSticky_params (v : Word) (s : State) :
    (clearSticky v s).params = s.params := rfl
@[simp] theorem clearSticky_pending (v : Word) (s : State) :
    (clearSticky v s).pending = s.pending := rfl
@[simp] theorem clearSticky_reply (v : Word) (s : State) : (clearSticky v s).reply = s.reply := rfl
@[simp] theorem clearSticky_resetCount (v : Word) (s : State) :
    (clearSticky v s).resetCount = s.resetCount := rfl
@[simp] theorem clearSticky_errorSeen (v : Word) (s : State) :
    (clearSticky v s).errorSeen = s.errorSeen := rfl

end clearSticky

section respond

@[simp] theorem respond_blk (b : List Byte) (s : State) : (respond b s).blk = s.blk := rfl
@[simp] theorem respond_tex (b : List Byte) (s : State) : (respond b s).tex = s.tex := rfl
@[simp] theorem respond_tw (b : List Byte) (s : State) : (respond b s).tw = s.tw := rfl
@[simp] theorem respond_cw (b : List Byte) (s : State) : (respond b s).cw = s.cw := rfl
@[simp] theorem respond_pal (b : List Byte) (s : State) : (respond b s).pal = s.pal := rfl
@[simp] theorem respond_err (b : List Byte) (s : State) : (respond b s).err = s.err := rfl
@[simp] theorem respond_werr (b : List Byte) (s : State) : (respond b s).werr = s.werr := rfl
@[simp] theorem respond_status (b : List Byte) (s : State) : (respond b s).status = s.status := rfl
@[simp] theorem respond_params (b : List Byte) (s : State) : (respond b s).params = s.params := rfl
@[simp] theorem respond_pending (b : List Byte) (s : State) :
    (respond b s).pending = s.pending := rfl
@[simp] theorem respond_reply (b : List Byte) (s : State) : (respond b s).reply = some b := rfl
@[simp] theorem respond_resetCount (b : List Byte) (s : State) :
    (respond b s).resetCount = s.resetCount := rfl
@[simp] theorem respond_errorSeen (b : List Byte) (s : State) :
    (respond b s).errorSeen = s.errorSeen := rfl

end respond

section accept

@[simp] theorem accept_blk (r : List HostEvent) (s : State) : (accept r s).blk = s.blk := rfl
@[simp] theorem accept_tex (r : List HostEvent) (s : State) : (accept r s).tex = s.tex := rfl
@[simp] theorem accept_tw (r : List HostEvent) (s : State) : (accept r s).tw = s.tw := rfl
@[simp] theorem accept_cw (r : List HostEvent) (s : State) : (accept r s).cw = s.cw := rfl
@[simp] theorem accept_pal (r : List HostEvent) (s : State) : (accept r s).pal = s.pal := rfl
@[simp] theorem accept_err (r : List HostEvent) (s : State) : (accept r s).err = s.err := rfl
@[simp] theorem accept_werr (r : List HostEvent) (s : State) : (accept r s).werr = s.werr := rfl
@[simp] theorem accept_status (r : List HostEvent) (s : State) :
    (accept r s).status = s.status := rfl
@[simp] theorem accept_params (r : List HostEvent) (s : State) :
    (accept r s).params = s.params := rfl
@[simp] theorem accept_pending (r : List HostEvent) (s : State) : (accept r s).pending = r := rfl
@[simp] theorem accept_reply (r : List HostEvent) (s : State) : (accept r s).reply = none := rfl
@[simp] theorem accept_resetCount (r : List HostEvent) (s : State) :
    (accept r s).resetCount = s.resetCount := rfl
@[simp] theorem accept_errorSeen (r : List HostEvent) (s : State) :
    (accept r s).errorSeen = s.errorSeen := rfl

end accept

section issueCommand

@[simp] theorem issueCommand_blk (w : Word) (s : State) : (issueCommand w s).blk = s.blk := rfl
@[simp] theorem issueCommand_tex (w : Word) (s : State) : (issueCommand w s).tex = s.tex := rfl
@[simp] theorem issueCommand_tw (w : Word) (s : State) : (issueCommand w s).tw = s.tw := rfl
@[simp] theorem issueCommand_cw (w : Word) (s : State) : (issueCommand w s).cw = s.cw := rfl
@[simp] theorem issueCommand_pal (w : Word) (s : State) : (issueCommand w s).pal = s.pal := rfl
@[simp] theorem issueCommand_err (w : Word) (s : State) : (issueCommand w s).err = s.err := rfl
@[simp] theorem issueCommand_werr (w : Word) (s : State) : (issueCommand w s).werr = s.werr := rfl
@[simp] theorem issueCommand_status (w : Word) (s : State) :
    (issueCommand w s).status = s.status := rfl
@[simp] theorem issueCommand_params (w : Word) (s : State) :
    (issueCommand w s).params = s.params := rfl
@[simp] theorem issueCommand_pending (w : Word) (s : State) :
    (issueCommand w s).pending = writeAt s.params 0x08 w :: s.pending := rfl
@[simp] theorem issueCommand_reply (w : Word) (s : State) :
    (issueCommand w s).reply = s.reply := rfl
@[simp] theorem issueCommand_resetCount (w : Word) (s : State) :
    (issueCommand w s).resetCount = s.resetCount := rfl
@[simp] theorem issueCommand_errorSeen (w : Word) (s : State) :
    (issueCommand w s).errorSeen = s.errorSeen := rfl

end issueCommand

section resetUnit

@[simp] theorem resetUnit_blk (s : State) : (resetUnit s).blk = Config.resetBlk s.resetCount := rfl
@[simp] theorem resetUnit_tex (s : State) : (resetUnit s).tex = Config.resetTex s.resetCount := rfl
@[simp] theorem resetUnit_tw (s : State) : (resetUnit s).tw = Config.resetTw s.resetCount := rfl
@[simp] theorem resetUnit_cw (s : State) : (resetUnit s).cw = Config.resetCw s.resetCount := rfl
@[simp] theorem resetUnit_pal (s : State) : (resetUnit s).pal = Config.resetPal s.resetCount := rfl
@[simp] theorem resetUnit_err (s : State) : (resetUnit s).err = Config.resetErr s.resetCount := rfl
@[simp] theorem resetUnit_werr (s : State) :
    (resetUnit s).werr = Config.resetWerr s.resetCount := rfl
@[simp] theorem resetUnit_status (s : State) : (resetUnit s).status = Status.cleared := rfl
@[simp] theorem resetUnit_params (s : State) : (resetUnit s).params = s.params := rfl
@[simp] theorem resetUnit_pending (s : State) : (resetUnit s).pending = s.pending := rfl
@[simp] theorem resetUnit_reply (s : State) : (resetUnit s).reply = s.reply := rfl
@[simp] theorem resetUnit_resetCount (s : State) :
    (resetUnit s).resetCount = s.resetCount + 1 := rfl
@[simp] theorem resetUnit_errorSeen (s : State) : (resetUnit s).errorSeen = s.errorSeen := rfl

end resetUnit

section afterPalgen

@[simp] theorem afterPalgen_blk (d : Decoder) (s : State) : (afterPalgen d s).blk = s.blk := rfl
@[simp] theorem afterPalgen_tex (d : Decoder) (s : State) : (afterPalgen d s).tex = s.tex := rfl
@[simp] theorem afterPalgen_tw (d : Decoder) (s : State) : (afterPalgen d s).tw = s.tw := rfl
@[simp] theorem afterPalgen_cw (d : Decoder) (s : State) : (afterPalgen d s).cw = s.cw := rfl
@[simp] theorem afterPalgen_pal (d : Decoder) (s : State) :
    (afterPalgen d s).pal = (blockPalette s.params s.blk d).entries := rfl
@[simp] theorem afterPalgen_err (d : Decoder) (s : State) : (afterPalgen d s).err = s.err := rfl
@[simp] theorem afterPalgen_werr (d : Decoder) (s : State) : (afterPalgen d s).werr = s.werr := rfl
@[simp] theorem afterPalgen_status (d : Decoder) (s : State) :
    (afterPalgen d s).status = s.status.afterPalgen (blockPalette s.params s.blk d).mode4 := rfl
@[simp] theorem afterPalgen_params (d : Decoder) (s : State) :
    (afterPalgen d s).params = s.params := rfl
@[simp] theorem afterPalgen_pending (d : Decoder) (s : State) :
    (afterPalgen d s).pending = s.pending := rfl
@[simp] theorem afterPalgen_reply (d : Decoder) (s : State) :
    (afterPalgen d s).reply = s.reply := rfl
@[simp] theorem afterPalgen_resetCount (d : Decoder) (s : State) :
    (afterPalgen d s).resetCount = s.resetCount := rfl
@[simp] theorem afterPalgen_errorSeen (d : Decoder) (s : State) :
    (afterPalgen d s).errorSeen = s.errorSeen := rfl

end afterPalgen

section afterEval

@[simp] theorem afterEval_blk (d : Decoder) (s : State) : (afterEval d s).blk = s.blk := rfl
@[simp] theorem afterEval_tex (d : Decoder) (s : State) : (afterEval d s).tex = s.tex := rfl
@[simp] theorem afterEval_tw (d : Decoder) (s : State) : (afterEval d s).tw = s.tw := rfl
@[simp] theorem afterEval_cw (d : Decoder) (s : State) : (afterEval d s).cw = s.cw := rfl
@[simp] theorem afterEval_pal (d : Decoder) (s : State) :
    (afterEval d s).pal = (blockPalette s.params s.blk d).entries := rfl
@[simp] theorem afterEval_err (d : Decoder) (s : State) :
    (afterEval d s).err = BitVec.ofNat 32 (sse (blockPalette s.params s.blk d).entries s.blk s.tex) := rfl
@[simp] theorem afterEval_werr (d : Decoder) (s : State) : (afterEval d s).werr = s.werr := rfl
@[simp] theorem afterEval_status (d : Decoder) (s : State) :
    (afterEval d s).status = s.status.afterEval (blockPalette s.params s.blk d).mode4 := rfl
@[simp] theorem afterEval_params (d : Decoder) (s : State) :
    (afterEval d s).params = s.params := rfl
@[simp] theorem afterEval_pending (d : Decoder) (s : State) :
    (afterEval d s).pending = s.pending := rfl
@[simp] theorem afterEval_reply (d : Decoder) (s : State) : (afterEval d s).reply = s.reply := rfl
@[simp] theorem afterEval_resetCount (d : Decoder) (s : State) :
    (afterEval d s).resetCount = s.resetCount := rfl
@[simp] theorem afterEval_errorSeen (d : Decoder) (s : State) :
    (afterEval d s).errorSeen = s.errorSeen := rfl

end afterEval

section afterWeval

@[simp] theorem afterWeval_blk (d : Decoder) (s : State) : (afterWeval d s).blk = s.blk := rfl
@[simp] theorem afterWeval_tex (d : Decoder) (s : State) : (afterWeval d s).tex = s.tex := rfl
@[simp] theorem afterWeval_tw (d : Decoder) (s : State) : (afterWeval d s).tw = s.tw := rfl
@[simp] theorem afterWeval_cw (d : Decoder) (s : State) : (afterWeval d s).cw = s.cw := rfl
@[simp] theorem afterWeval_pal (d : Decoder) (s : State) :
    (afterWeval d s).pal = (blockPalette s.params s.blk d).entries := rfl
@[simp] theorem afterWeval_err (d : Decoder) (s : State) : (afterWeval d s).err = s.err := rfl
@[simp] theorem afterWeval_werr (d : Decoder) (s : State) :
    (afterWeval d s).werr = BitVec.ofNat 64 (wsse (blockPalette s.params s.blk d).entries s.blk s.tex s.tw s.cw) := rfl
@[simp] theorem afterWeval_status (d : Decoder) (s : State) :
    (afterWeval d s).status = s.status.afterWeval (blockPalette s.params s.blk d).mode4 := rfl
@[simp] theorem afterWeval_params (d : Decoder) (s : State) :
    (afterWeval d s).params = s.params := rfl
@[simp] theorem afterWeval_pending (d : Decoder) (s : State) :
    (afterWeval d s).pending = s.pending := rfl
@[simp] theorem afterWeval_reply (d : Decoder) (s : State) : (afterWeval d s).reply = s.reply := rfl
@[simp] theorem afterWeval_resetCount (d : Decoder) (s : State) :
    (afterWeval d s).resetCount = s.resetCount := rfl
@[simp] theorem afterWeval_errorSeen (d : Decoder) (s : State) :
    (afterWeval d s).errorSeen = s.errorSeen := rfl

end afterWeval

section statusFlags

@[simp] theorem Status.afterPalgen_palv (f : Status) (m : Bool) : (f.afterPalgen m).palv = true := rfl
@[simp] theorem Status.afterPalgen_errv (f : Status) (m : Bool) : (f.afterPalgen m).errv = false := rfl
@[simp] theorem Status.afterPalgen_werrv (f : Status) (m : Bool) : (f.afterPalgen m).werrv = false := rfl
@[simp] theorem Status.afterPalgen_mode4 (f : Status) (m : Bool) : (f.afterPalgen m).mode4 = m := rfl
@[simp] theorem Status.afterPalgen_ill (f : Status) (m : Bool) : (f.afterPalgen m).ill = f.ill := rfl
@[simp] theorem Status.afterPalgen_acc (f : Status) (m : Bool) : (f.afterPalgen m).acc = f.acc := rfl

@[simp] theorem Status.afterEval_palv (f : Status) (m : Bool) : (f.afterEval m).palv = true := rfl
@[simp] theorem Status.afterEval_errv (f : Status) (m : Bool) : (f.afterEval m).errv = true := rfl
@[simp] theorem Status.afterEval_werrv (f : Status) (m : Bool) : (f.afterEval m).werrv = false := rfl
@[simp] theorem Status.afterEval_mode4 (f : Status) (m : Bool) : (f.afterEval m).mode4 = m := rfl
@[simp] theorem Status.afterEval_ill (f : Status) (m : Bool) : (f.afterEval m).ill = f.ill := rfl
@[simp] theorem Status.afterEval_acc (f : Status) (m : Bool) : (f.afterEval m).acc = f.acc := rfl

@[simp] theorem Status.afterWeval_palv (f : Status) (m : Bool) : (f.afterWeval m).palv = true := rfl
@[simp] theorem Status.afterWeval_errv (f : Status) (m : Bool) : (f.afterWeval m).errv = false := rfl
@[simp] theorem Status.afterWeval_werrv (f : Status) (m : Bool) : (f.afterWeval m).werrv = true := rfl
@[simp] theorem Status.afterWeval_mode4 (f : Status) (m : Bool) : (f.afterWeval m).mode4 = m := rfl
@[simp] theorem Status.afterWeval_ill (f : Status) (m : Bool) : (f.afterWeval m).ill = f.ill := rfl
@[simp] theorem Status.afterWeval_acc (f : Status) (m : Bool) : (f.afterWeval m).acc = f.acc := rfl

@[simp] theorem Status.writeOneToClear_palv (f : Status) (v : Word) : (f.writeOneToClear v).palv = f.palv := rfl
@[simp] theorem Status.writeOneToClear_errv (f : Status) (v : Word) : (f.writeOneToClear v).errv = f.errv := rfl
@[simp] theorem Status.writeOneToClear_werrv (f : Status) (v : Word) : (f.writeOneToClear v).werrv = f.werrv := rfl
@[simp] theorem Status.writeOneToClear_mode4 (f : Status) (v : Word) : (f.writeOneToClear v).mode4 = f.mode4 := rfl
@[simp] theorem Status.writeOneToClear_ill (f : Status) (v : Word) : (f.writeOneToClear v).ill = (f.ill && !v.getLsbD 4) := rfl
@[simp] theorem Status.writeOneToClear_acc (f : Status) (v : Word) : (f.writeOneToClear v).acc = (f.acc && !v.getLsbD 5) := rfl

@[simp] theorem Status.raise_illegal_palv (f : Status) : (f.raise .illegal).palv = f.palv := rfl
@[simp] theorem Status.raise_illegal_errv (f : Status) : (f.raise .illegal).errv = f.errv := rfl
@[simp] theorem Status.raise_illegal_werrv (f : Status) : (f.raise .illegal).werrv = f.werrv := rfl
@[simp] theorem Status.raise_illegal_mode4 (f : Status) : (f.raise .illegal).mode4 = f.mode4 := rfl
@[simp] theorem Status.raise_illegal_ill (f : Status) : (f.raise .illegal).ill = true := rfl
@[simp] theorem Status.raise_illegal_acc (f : Status) : (f.raise .illegal).acc = f.acc := rfl

@[simp] theorem Status.raise_access_palv (f : Status) : (f.raise .access).palv = f.palv := rfl
@[simp] theorem Status.raise_access_errv (f : Status) : (f.raise .access).errv = f.errv := rfl
@[simp] theorem Status.raise_access_werrv (f : Status) : (f.raise .access).werrv = f.werrv := rfl
@[simp] theorem Status.raise_access_mode4 (f : Status) : (f.raise .access).mode4 = f.mode4 := rfl
@[simp] theorem Status.raise_access_ill (f : Status) : (f.raise .access).ill = f.ill := rfl
@[simp] theorem Status.raise_access_acc (f : Status) : (f.raise .access).acc = true := rfl

@[simp] theorem Status.cleared_palv : (Status.cleared).palv = false := rfl
@[simp] theorem Status.cleared_errv : (Status.cleared).errv = false := rfl
@[simp] theorem Status.cleared_werrv : (Status.cleared).werrv = false := rfl
@[simp] theorem Status.cleared_mode4 : (Status.cleared).mode4 = false := rfl
@[simp] theorem Status.cleared_ill : (Status.cleared).ill = false := rfl
@[simp] theorem Status.cleared_acc : (Status.cleared).acc = false := rfl

end statusFlags

end Sys2Proof.Machine
end

