-- ==== Sys2Proof/Laws/Exec.lean ====
section
/-! SUPPORT. What a command, a transaction and a step can do, each said once: a later proof cites these
and does not unfold the machine. -/

namespace Sys2Proof.Machine

/-- Everything a command can do: nothing, or what its operation leaves (30_encoding.md R65). -/
theorem exec_cases {i : Instr} {s t : State} (h : exec i s = .next t) :
    (i.op = .nop ∧ t = s) ∨ (i.op = .palgen ∧ t = afterPalgen i.dec s) ∨
    (i.op = .eval ∧ t = afterEval i.dec s) ∨ (i.op = .weval ∧ t = afterWeval i.dec s) := by
  cases i <;> cases h <;> simp [Instr.op, Instr.dec]

/-- Everything a word written to `CMD` can do (30_encoding.md R65). -/
theorem execute_cases {w : Word} {s t : State} (h : execute w s = .next t) :
    (∃ i, decodeWord w = .ok i ∧ exec i s = .next t) ∨
    (∃ e, decodeWord w = .error e ∧ t = takeError .illegal s) := by
  unfold execute at h
  split at h
  next i hi => exact .inl ⟨i, hi, h⟩
  next e he => cases h; exact .inr ⟨e, he, rfl⟩

/-- Everything an aligned write can do (20_memory.md R45). -/
theorem writeWord_cases {off : Nat} {v : Word} {s t : State} (h : writeWord off v s = .next t) :
    (registerAt off = some .cmd ∧ execute v s = .next t) ∨
    (∃ r, registerAt off = some r ∧ r ≠ .cmd ∧ t = writeReg r v s) ∨
    (registerAt off = none ∧ t = takeError .access s) := by
  unfold writeWord at h
  split at h
  next hr => exact .inl ⟨hr, h⟩
  next r hc hr =>
    cases h
    exact .inr (.inl ⟨r, hr, hc, rfl⟩)
  next hr => cases h; exact .inr (.inr ⟨hr, rfl⟩)

/-- Everything a read can do (20_memory.md R40, R44, R46, R47): nothing, a reply, or a reply of zeros
with an access error. -/
theorem hostRead_cases (addr width : Nat) (s : State) :
    (windowOffset s.params addr = none ∧ hostRead addr width s = s) ∨
    (∃ off r, windowOffset s.params addr = some off ∧ width = 4 ∧ off % 4 = 0 ∧
      registerAt off = some r ∧ hostRead addr width s = respond (bytesOfWord (readReg r s)) s) ∨
    (∃ b, hostRead addr width s = respond b (takeError .access s)) := by
  unfold hostRead
  split
  next h => exact .inl ⟨h, rfl⟩
  next off h =>
    split
    next ha =>
      unfold readWord
      split
      next r hr => exact .inr (.inl ⟨off, r, h, ha.1, ha.2, hr, rfl⟩)
      next => exact .inr (.inr ⟨_, rfl⟩)
    next => exact .inr (.inr ⟨_, rfl⟩)

/-- Everything a write can do (20_memory.md R40, R45, R46, R47). -/
theorem hostWrite_cases {addr : Nat} {data : List Byte} {s t : State}
    (h : hostWrite addr data s = .next t) :
    (windowOffset s.params addr = none ∧ t = s) ∨
    (∃ off b0 b1 b2 b3, windowOffset s.params addr = some off ∧ off % 4 = 0 ∧
      data = [b0, b1, b2, b3] ∧ writeWord off (wordOfBytes b0 b1 b2 b3) s = .next t) ∨
    t = takeError .access s := by
  unfold hostWrite at h
  split at h
  next hw => cases h; exact .inl ⟨hw, rfl⟩
  next off hw =>
    split at h
    next b0 b1 b2 b3 =>
      split at h
      next ha => exact .inr (.inl ⟨off, b0, b1, b2, b3, hw, ha, rfl, h⟩)
      next => cases h; exact .inr (.inr rfl)
    next => cases h; exact .inr (.inr rfl)

/-- Every register stands at its offset (20_memory.md R41). -/
theorem registerAt_offset (r : WindowReg) : registerAt r.offset = some r := by
  cases r with
  | tw j => revert j; decide
  | tex k => revert k; decide
  | pal n => revert n; decide
  | _ => rfl

/-- At an aligned offset stands only the register of that offset (20_memory.md R41). -/
theorem offset_of_registerAt {off : Nat} {r : WindowReg} (h : registerAt off = some r)
    (ha : off % 4 = 0) : r.offset = off := by
  unfold registerAt at h
  repeat' split at h
  all_goals simp only [Option.some.injEq, reduceCtorEq] at h
  all_goals subst h
  all_goals simp only [WindowReg.offset]
  all_goals omega

/-- An access that the unit decodes is one at `BASE` plus its offset (20_memory.md R40). -/
theorem windowOffset_eq_some {p : Params} {addr off : Nat} (h : windowOffset p addr = some off) :
    addr = p.base.addr + off ∧ off < 256 := by
  unfold windowOffset at h
  split at h
  next hb =>
    simp only [Option.some.injEq] at hb h
    omega
  next => cases h

/-- Everything a step can do (00_scope.md R8): with `accept rest s` the state after the input is taken
off the host's stream, the state stays, a legal word runs its command, a register is written, an
event is taken, a read is answered, or the unit is reset. -/
theorem step_cases {s t : State} (h : step s = .next t) :
    (s.pending = [] ∧ t = s) ∨
    ∃ e rest, s.pending = e :: rest ∧
      (t = accept rest s ∨
      (∃ w i, e = writeAt s.params 0x08 w ∧ decodeWord w = .ok i ∧ exec i (accept rest s) = .next t) ∨
      (∃ r v, e = writeAt s.params r.offset v ∧ r ≠ .cmd ∧ t = writeReg r v (accept rest s)) ∨
      (∃ ev, t = takeError ev (accept rest s)) ∨
      (∃ b, t = respond b (accept rest s)) ∨
      (∃ b, t = respond b (takeError .access (accept rest s))) ∨
      (e = .reset ∧ t = resetUnit (accept rest s))) := by
  simp only [step, stepOnce] at h
  split at h
  next hp => cases h; exact .inl ⟨hp, rfl⟩
  next e rest hp =>
    refine .inr ⟨e, rest, hp, ?_⟩
    cases e with
    | reset => cases h; simp
    | read addr width =>
      cases h
      obtain ⟨-, h⟩ | ⟨off, r, -, -, -, -, h⟩ | ⟨b, h⟩ := hostRead_cases addr width (accept rest s)
      · exact .inl h
      · exact .inr (.inr (.inr (.inr (.inl ⟨_, h⟩))))
      · exact .inr (.inr (.inr (.inr (.inr (.inl ⟨_, h⟩)))))
    | write addr data =>
      obtain ⟨-, h⟩ | ⟨off, b0, b1, b2, b3, hw, ha, hd, h⟩ | h := hostWrite_cases h
      · exact .inl h
      · have he : ∀ r, registerAt off = some r →
            HostEvent.write addr data = writeAt s.params r.offset (wordOfBytes b0 b1 b2 b3) := by
          intro r hr
          rw [writeAt, bytesOfWord_wordOfBytes, hd, offset_of_registerAt hr ha,
            (windowOffset_eq_some hw).1]
          rfl
        obtain ⟨hr, h⟩ | ⟨r, hr, hc, h⟩ | ⟨-, h⟩ := writeWord_cases h
        · obtain ⟨i, hi, h⟩ | ⟨e, -, h⟩ := execute_cases h
          · exact .inr (.inl ⟨_, i, he _ hr, hi, h⟩)
          · exact .inr (.inr (.inr (.inl ⟨_, h⟩)))
        · exact .inr (.inr (.inl ⟨r, _, he _ hr, hc, h⟩))
        · exact .inr (.inr (.inr (.inl ⟨_, h⟩)))
      · exact .inr (.inr (.inr (.inl ⟨_, h⟩)))

/-- A step with an input waiting handles it. -/
theorem step_of_pending {s : State} {e : HostEvent} {rest : List HostEvent}
    (h : s.pending = e :: rest) : step s = handle e (accept rest s) := by
  simp [step, stepOnce, h]

/-- An offset below 256 is decoded as itself (20_memory.md R40). -/
theorem windowOffset_base (p : Params) {off : Nat} (h : off < 256) :
    windowOffset p (p.base.addr + off) = some off := by
  simp [windowOffset, h]

/-- A write at an aligned offset of the window. -/
theorem handle_writeAt (s : State) {off : Nat} (v : Word) (h : off < 256) (ha : off % 4 = 0) :
    handle (writeAt s.params off v) s = writeWord off v s := by
  simp [handle, writeAt, hostWrite, windowOffset_base _ h, ha, bytesOfWord, wordOfBytes_bytesOfWord]

/-- A read at an aligned offset of the window. -/
theorem handle_readAt (s : State) {off : Nat} (h : off < 256) (ha : off % 4 = 0) :
    handle (readAt s.params off) s = .next (readWord off s) := by
  simp [handle, readAt, hostRead, windowOffset_base _ h, ha]

/-- A NOP answers the state it was given (43_control.md R150). -/
theorem exec_of_nop {i : Instr} (s : State) (h : i.op = .nop) : exec i s = .next s := by
  cases i <;> first | exact absurd h (by decide) | rfl

/-- A PALGEN answers what its operation leaves (41_palette.md R111). -/
theorem exec_of_palgen {i : Instr} (s : State) (h : i.op = .palgen) :
    exec i s = .next (afterPalgen i.dec s) := by
  cases i <;> first | exact absurd h (by decide) | rfl

/-- An EVAL answers what its operation leaves (42_error.md R134). -/
theorem exec_of_eval {i : Instr} (s : State) (h : i.op = .eval) :
    exec i s = .next (afterEval i.dec s) := by
  cases i <;> first | exact absurd h (by decide) | rfl

/-- A WEVAL answers what its operation leaves (42_error.md R137). -/
theorem exec_of_weval {i : Instr} (s : State) (h : i.op = .weval) :
    exec i s = .next (afterWeval i.dec s) := by
  cases i <;> first | exact absurd h (by decide) | rfl

/-- A step that takes an aligned write inside the window. -/
theorem step_writeAt {s : State} {rest : List HostEvent} {off : Nat} {v : Word}
    (hp : s.pending = writeAt s.params off v :: rest) (h : off < 256) (ha : off % 4 = 0) :
    step s = writeWord off v (accept rest s) := by
  rw [step_of_pending hp]
  exact handle_writeAt (accept rest s) v h ha

/-- A step that takes an aligned read inside the window. -/
theorem step_readAt {s : State} {rest : List HostEvent} {off : Nat}
    (hp : s.pending = readAt s.params off :: rest) (h : off < 256) (ha : off % 4 = 0) :
    step s = .next (readWord off (accept rest s)) := by
  rw [step_of_pending hp]
  exact handle_readAt (accept rest s) h ha

/-- Every register of the window stands at an aligned offset below 256 (20_memory.md R41). -/
theorem offset_bounds (r : WindowReg) : r.offset < 256 ∧ r.offset % 4 = 0 := by
  cases r with
  | tw j => simp only [WindowReg.offset]; omega
  | tex k => simp only [WindowReg.offset]; omega
  | pal n => simp only [WindowReg.offset]; omega
  | _ => decide

/-- A step that writes a register other than `CMD`. -/
theorem step_writeReg {s : State} {rest : List HostEvent} {r : WindowReg} {v : Word} (hc : r ≠ .cmd)
    (hp : s.pending = writeAt s.params r.offset v :: rest) :
    step s = .next (writeReg r v (accept rest s)) := by
  rw [step_writeAt hp (offset_bounds r).1 (offset_bounds r).2]
  simp only [writeWord, registerAt_offset]

/-- A step that reads a register. -/
theorem step_readReg {s : State} {rest : List HostEvent} {r : WindowReg}
    (hp : s.pending = readAt s.params r.offset :: rest) :
    step s = .next (respond (bytesOfWord (readReg r (accept rest s))) (accept rest s)) := by
  rw [step_readAt hp (offset_bounds r).1 (offset_bounds r).2]
  simp only [readWord, registerAt_offset]

/-- A register write adds no input and takes none. -/
@[simp] theorem writeReg_pending (r : WindowReg) (v : Word) (s : State) :
    (writeReg r v s).pending = s.pending := by cases r <;> rfl

/-- A register write leaves the parameters alone. -/
@[simp] theorem writeReg_params (r : WindowReg) (v : Word) (s : State) :
    (writeReg r v s).params = s.params := by cases r <;> rfl

/-- A register write returns nothing to the host. -/
@[simp] theorem writeReg_reply (r : WindowReg) (v : Word) (s : State) :
    (writeReg r v s).reply = s.reply := by cases r <;> rfl

/-- A run whose first step answers `t` goes on from `t`. -/
theorem run_succ {s t : State} (h : step s = .next t) (k : Nat) :
    Sys2Proof.core.run (k + 1) s = Sys2Proof.core.run k t := by
  have go : ∀ (M : Host.Core) (a b : M.State), M.step a = .next b → M.run (k + 1) a = M.run k b :=
    fun M a b hab => by simp only [Host.Core.run, hab]
  exact go Sys2Proof.core s t h

end Sys2Proof.Machine
end

