-- ==== Sys2Proof/Laws/Palette.lean ====
section
/-! SUPPORT. The palette in each mode, and the sums of the error commands as sums over the sixteen
texels, each said once. -/

namespace Sys2Proof.Machine

/-- `Mode4` is the unsigned comparison (40_unpack_expand.md R85). -/
theorem mode4_iff (c0 c1 : Half) : mode4 c0 c1 = true ↔ c0.toNat > c1.toNat := by
  simp [mode4]

/-- The palette of a 4-color block (41_palette.md R110). -/
theorem palette_of_mode4 (p : Params) {c0 c1 : Half} (d : Decoder) (h : mode4 c0 c1 = true) :
    palette p c0 c1 d = ⟨#v[expand565 c0, expand565 c1, opaqueEntry (entries4 p c0 c1 d).1,
      opaqueEntry (entries4 p c0 c1 d).2], true⟩ := by
  simp only [palette, h, if_true]

/-- The palette of a 3-color block (41_palette.md R110). -/
theorem palette_of_mode3 (p : Params) {c0 c1 : Half} (d : Decoder) (h : mode4 c0 c1 = false) :
    palette p c0 c1 d = ⟨#v[expand565 c0, expand565 c1, opaqueEntry (entry3 p c0 c1 d),
      transparentBlack], false⟩ := by
  simp [palette, h]

/-- The mode flag of a palette (41_palette.md R110). -/
theorem palette_mode4 (p : Params) (c0 c1 : Half) (d : Decoder) :
    (palette p c0 c1 d).mode4 = mode4 c0 c1 := by
  unfold palette
  split <;> simp_all

/-- The sum over the texels is the sum over all their numbers. -/
theorem sumTexels_eq_sum (f : Fin 16 → Nat) : sumTexels f = ∑ k, f k := by
  simp [sumTexels, allTexels, Fin.sum_univ_succ]

/-- A squared difference is the square of the integer difference (42_error.md R131). -/
theorem sqDiff_cast (a b : Byte) : (sqDiff a b : ℤ) = ((a.toNat : ℤ) - b.toNat) ^ 2 := by
  simp [sqDiff]

/-- Each square is in 0..65025 (42_error.md R131). -/
theorem sqDiff_le (a b : Byte) : sqDiff a b ≤ 65025 := by
  have h : ((a.toNat : Int) - b.toNat).natAbs ≤ 255 := by
    have ha := a.isLt
    have hb := b.isLt
    omega
  simpa [sqDiff] using Nat.pow_le_pow_left h 2

/-- The distance of two colours that agree in R, G and B is 0 (42_error.md R131). -/
theorem sqDiff_self (a : Byte) : sqDiff a a = 0 := by simp [sqDiff]

end Sys2Proof.Machine
end

