-- ==== Sys2Proof/Laws/PerInstr.lean ====
section
/-! SUPPORT. A family of statements about every command, as syntax: the three fields of its word are its
operation's number, its decoder's number and zero (30_encoding.md R60 to R63). -/

namespace Sys2Proof.Laws.EncodesItsFields

/-- The fields of the word of `i`, and that the word is legal. -/
def Statement (i : Instr) : Prop :=
  opField (encodeWord i) = opCode i.op ∧ decField (encodeWord i) = decoderCode i.dec ∧
    rsvField (encodeWord i) = 0 ∧ Legal (encodeWord i) = true

theorem nopRef : Statement .nopRef := by unfold Statement; decide
theorem nopVa : Statement .nopVa := by unfold Statement; decide
theorem nopVb : Statement .nopVb := by unfold Statement; decide
theorem palgenRef : Statement .palgenRef := by unfold Statement; decide
theorem palgenVa : Statement .palgenVa := by unfold Statement; decide
theorem palgenVb : Statement .palgenVb := by unfold Statement; decide
theorem evalRef : Statement .evalRef := by unfold Statement; decide
theorem evalVa : Statement .evalVa := by unfold Statement; decide
theorem evalVb : Statement .evalVb := by unfold Statement; decide
theorem wevalRef : Statement .wevalRef := by unfold Statement; decide
theorem wevalVa : Statement .wevalVa := by unfold Statement; decide
theorem wevalVb : Statement .wevalVb := by unfold Statement; decide

end Sys2Proof.Laws.EncodesItsFields
end

