-- ==== Sys2Proof/Tests/Slice0.lean ====
section
/-! SUPPORT. Tests. Expected values are those of 95_test_vectors.md, whose numbers are derived from the
rules, not from a run; each test names its vector. The witnesses show that the hypotheses of the
statements can be met. -/

open Sys2Proof Sys2Proof.Machine Sys2Proof.Claims

namespace Sys2Proof.Tests

/-- A unit just after reset that holds a block. -/
def block (blk : DWord) : State := { State.reset with blk := blk }

/-- A unit with these inputs from the host waiting. -/
def host (events : List HostEvent) (s : State) : State := { s with pending := events }

/-- A unit with `VB_DIV` = 64 that holds a block. -/
def block64 (blk : DWord) : State :=
  { block blk with params := { Config.defaults with vbDiv := ⟨64, by decide⟩ } }

/-- The start state of the vectors of 95_test_vectors.md 2.5 and 2.6: `BLK_LO` = 0x001FF800, `palgen`
done. The palette is that of vector V-P1. -/
def start : State :=
  { block 0x001FF800 with
    pal := #v[.ofWord 0xFF0000FF, .ofWord 0xFFFF0000, .ofWord 0xFF5500AA, .ofWord 0xFFAA0055]
    status := ⟨true, false, false, true, false, false⟩ }

/-- The next state of an outcome. -/
def nextOf : Host.Outcome State Fault Refusal → Option State
  | .next s => some s
  | .fault _ => none
  | .refused _ => none

/-- The palette words and the status word. -/
def palAndStatus (s : State) : List Word :=
  [s.pal[0].toWord, s.pal[1].toWord, s.pal[2].toWord, s.pal[3].toWord, s.status.toWord]

/-- The grey ramp of vector V-E2. -/
def texGrey : Vector Rgba 16 :=
  #v[.ofWord 0xFF000000, .ofWord 0xFF111111, .ofWord 0xFF222222, .ofWord 0xFF333333,
  .ofWord 0xFF444444, .ofWord 0xFF555555, .ofWord 0xFF666666, .ofWord 0xFF777777,
  .ofWord 0xFF888888, .ofWord 0xFF999999, .ofWord 0xFFAAAAAA, .ofWord 0xFFBBBBBB,
  .ofWord 0xFFCCCCCC, .ofWord 0xFFDDDDDD, .ofWord 0xFFEEEEEE, .ofWord 0xFFFFFFFF]

/-- Table T of 95_test_vectors.md 2.3. -/
def texT : Vector Rgba 16 :=
  #v[.ofWord 0x3C822044, .ofWord 0xC2F1E6FD, .ofWord 0x0EF9306B, .ofWord 0xE401DDC7,
  .ofWord 0xA2347588, .ofWord 0x040D0B0F, .ofWord 0x0ED86EC3, .ofWord 0x77FDE071,
  .ofWord 0xEB7076B0, .ofWord 0x33D50B94, .ofWord 0xAA3D975F, .ofWord 0x919B61D8,
  .ofWord 0xF511C9FF, .ofWord 0x58D4CE7C, .ofWord 0xE02CBFBB, .ofWord 0xBDC95337]

/-- The weights of vector V-W8. -/
def twW8 : Vector Byte 16 :=
  setTwWord (setTwWord (setTwWord (setTwWord (Vector.replicate 16 0) 0 0x42C40289) 1 0xF61CDA69)
    2 0xF8D366BA) 3 0x00B1D4B6

/-- Operands of V-E8 and V-W8 with a block given by its low word. -/
def opsT (lo : Word) : State :=
  { block ((0xEB515E33 : Word) ++ lo) with tex := texT, tw := twW8, cw := .ofWord 0x000EEAA9 }

/-! ## Well-formedness: one ill-formed word for each check -/

theorem test_reserved_bit_6_refused : reservedClear 0x40 = false ∧ Legal 0x40 = false := by decide
theorem test_reserved_bit_31_refused : reservedClear 0x80000001 = false ∧ Legal 0x80000001 = false := by
  decide
theorem test_decoder_3_refused : decoderKnown 0x30 = false ∧ Legal 0x30 = false := by decide
theorem test_op_4_refused : opKnown 0x04 = false ∧ Legal 0x04 = false := by decide
theorem test_op_15_refused : opKnown 0x0F = false ∧ Legal 0x0F = false := by decide
theorem test_rejections_have_names :
    decodeWord 0x40 = .error .reservedBitsSet ∧ decodeWord 0x30 = .error .decoderUnknown ∧
    decodeWord 0x04 = .error .opUnknown ∧ decodeBytes [0x01, 0x00, 0x00] = .error .tooShort := by decide

/-! ## Decoding: each word written from 30_encoding.md R60 to R62 as rsv, dec, op -/

theorem test_decode_nop_ref :
    decodeWord ((0 : BitVec 26) ++ (0b00 : BitVec 2) ++ (0b0000 : BitVec 4)) = .ok .nopRef := by
  decide
theorem test_decode_nop_va :
    decodeWord ((0 : BitVec 26) ++ (0b01 : BitVec 2) ++ (0b0000 : BitVec 4)) = .ok .nopVa := by
  decide
theorem test_decode_nop_vb :
    decodeWord ((0 : BitVec 26) ++ (0b10 : BitVec 2) ++ (0b0000 : BitVec 4)) = .ok .nopVb := by
  decide
theorem test_decode_palgen_ref :
    decodeWord ((0 : BitVec 26) ++ (0b00 : BitVec 2) ++ (0b0001 : BitVec 4)) = .ok .palgenRef := by
  decide
theorem test_decode_palgen_va :
    decodeWord ((0 : BitVec 26) ++ (0b01 : BitVec 2) ++ (0b0001 : BitVec 4)) = .ok .palgenVa := by
  decide
theorem test_decode_palgen_vb :
    decodeWord ((0 : BitVec 26) ++ (0b10 : BitVec 2) ++ (0b0001 : BitVec 4)) = .ok .palgenVb := by
  decide
theorem test_decode_eval_ref :
    decodeWord ((0 : BitVec 26) ++ (0b00 : BitVec 2) ++ (0b0010 : BitVec 4)) = .ok .evalRef := by
  decide
theorem test_decode_eval_va :
    decodeWord ((0 : BitVec 26) ++ (0b01 : BitVec 2) ++ (0b0010 : BitVec 4)) = .ok .evalVa := by
  decide
theorem test_decode_eval_vb :
    decodeWord ((0 : BitVec 26) ++ (0b10 : BitVec 2) ++ (0b0010 : BitVec 4)) = .ok .evalVb := by
  decide
theorem test_decode_weval_ref :
    decodeWord ((0 : BitVec 26) ++ (0b00 : BitVec 2) ++ (0b0011 : BitVec 4)) = .ok .wevalRef := by
  decide
theorem test_decode_weval_va :
    decodeWord ((0 : BitVec 26) ++ (0b01 : BitVec 2) ++ (0b0011 : BitVec 4)) = .ok .wevalVa := by
  decide
theorem test_decode_weval_vb :
    decodeWord ((0 : BitVec 26) ++ (0b10 : BitVec 2) ++ (0b0011 : BitVec 4)) = .ok .wevalVb := by
  decide

/-- The twelve rows as `opcode_table.json` writes their bits; the last row is no row of the table. -/
theorem test_table_words :
    [0b000000, 0b010000, 0b100000, 0b000001, 0b010001, 0b100001, 0b000010, 0b010010, 0b100010,
      0b000011, 0b010011, 0b100011, 0b110011].map (decodeTableWord 32) =
    [some .nopRef, some .nopVa, some .nopVb, some .palgenRef, some .palgenVa, some .palgenVb,
      some .evalRef, some .evalVa, some .evalVb, some .wevalRef, some .wevalVa, some .wevalVb, none] := by
  decide

/-- `nop.va` is `wr CMD, 0x10` (30_encoding.md R68), the byte 0x10 at the lowest offset. -/
theorem test_encode_bytes : encode .nopVa = [0x10, 0x00, 0x00, 0x00] := by decide

/-! ## Functions -/

/-- V-U13, V-U9. -/
theorem test_expand565 :
    (expand565 0x1234).toWord = 0xFFA54510 ∧ (expand565 0xA534).toWord = 0xFFA5A6A5 := by decide

/-- The mode examples of 95_test_vectors.md 2.1: unsigned, equal is 3-color. -/
theorem test_mode4 : mode4 0x8000 0x7FFF = true ∧ mode4 0x8410 0x8410 = false ∧
    mode4 0x0001 0x0000 = true ∧ mode4 0x07E0 0x001F = true := by decide

/-- The index words of 42_error.md R130: 0x55550000, and V-E2's. -/
theorem test_idx : (List.finRange 16).map (idx 0x02AAFFD50000FFFF) =
    [1, 1, 1, 3, 3, 3, 3, 3, 2, 2, 2, 2, 2, 0, 0, 0] := by decide

/-! ## Commands -/

/-- V-C1, V-C2. -/
theorem test_nop : nextOf (exec .nopRef start) = some start ∧ nopStep .vendorA start = .next start ∧
    exec .nopVb start = .next start := ⟨rfl, rfl, rfl⟩

/-- V-P1, REF. -/
theorem test_palgen_ref_4 : (nextOf (exec .palgenRef (block 0x001FF800))).map palAndStatus =
    some [0xFF0000FF, 0xFFFF0000, 0xFF5500AA, 0xFFAA0055, 0x09] := by decide

/-- V-P4, REF. -/
theorem test_palgen_ref_3 : (nextOf (exec .palgenRef (block 0xFFFF0000))).map palAndStatus =
    some [0xFF000000, 0xFFFFFFFF, 0xFF7F7F7F, 0x00000000, 0x01] := by decide

/-- V-P15, VA: the division of `gdiff` truncates toward zero. -/
theorem test_palgen_va_4 : (nextOf (exec .palgenVa (block 0x00200400))).map palAndStatus =
    some [0xFF008200, 0xFF000400, 0xFF005B00, 0xFF002B00, 0x09] := by decide

/-- V-P14, VA. -/
theorem test_palgen_va_3 : (nextOf (exec .palgenVa (block 0xA534528A))).map palAndStatus =
    some [0xFF525152, 0xFFA5A6A5, 0xFF7B7C7B, 0x00000000, 0x01] := by decide

/-- V-P10, VB/8: `trunc8` at work. -/
theorem test_palgen_vb_4 : (nextOf (exec .palgenVb (block 0x39E77BEF))).map palAndStatus =
    some [0xFF7B7D7B, 0xFF393C39, 0xFF2E412E, 0xFF798E79, 0x09] := by decide

/-- V-P13, VB/64. -/
theorem test_palgen_vb_4_div_64 : (nextOf (exec .palgenVb (block64 0x528AA534))).map palAndStatus =
    some [0xFFA5A6A5, 0xFF525152, 0xFF8A8A8A, 0xFF6D6D6D, 0x09] := by decide

/-- V-E8, REF. -/
theorem test_eval_ref : (nextOf (exec .evalRef (opsT 0x39E77BEF))).map (fun t => (t.err.toNat, t.status.toWord)) =
    some (434866, 0x0B) := by decide

/-- V-E6, REF: the largest value of `ERR`. -/
theorem test_eval_ref_largest : (nextOf (exec .evalRef (block 0xFFFFFFFF))).map (fun t => (t.err.toNat, t.status.toWord)) =
    some (3121200, 0x03) := by decide

/-- V-E2, VA. -/
theorem test_eval_va : (nextOf (exec .evalVa { block 0x02AAFFD50000FFFF with tex := texGrey })).map (fun t => (t.err.toNat, t.status.toWord)) =
    some (26260, 0x0B) := by decide

/-- V-E8, VB/8. -/
theorem test_eval_vb : (nextOf (exec .evalVb (opsT 0x39E77BEF))).map (fun t => (t.err.toNat, t.status.toWord)) =
    some (502343, 0x0B) := by decide

/-- V-W8, REF. -/
theorem test_weval_ref : (nextOf (exec .wevalRef (opsT 0x39E77BEF))).map (fun t => (t.werr.toNat, t.status.toWord)) =
    some (1607459889698, 0x0D) := by decide

/-- V-W9, VA: 3-color. -/
theorem test_weval_va : (nextOf (exec .wevalVa (opsT 0x7BEF39E7))).map (fun t => (t.werr.toNat, t.status.toWord)) =
    some (1580439274281, 0x05) := by decide

/-- V-W8, VB/8. -/
theorem test_weval_vb : (nextOf (exec .wevalVb (opsT 0x39E77BEF))).map (fun t => (t.werr.toNat, t.status.toWord)) =
    some (2103622786586, 0x0D) := by decide

/-! ## The window -/

/-- The status word and the reply after one input. -/
def statusAndReply (e : HostEvent) (s : State) : Option (Word × Option (List Byte)) :=
  (nextOf (step (host [e] s))).map fun t => (t.status.toWord, t.reply)

/-- `start` with these sticky flags. -/
def flagged (ill acc : Bool) : State := { start with status := { start.status with ill := ill, acc := acc } }

/-- V-C3, V-C5, V-C6, V-C7. -/
theorem test_illegal_words : [0x30, 0x04, 0x0F, 0x40, 0x80000001].map
    (fun w => (nextOf (step (host [writeAt start.params 0x08 w] start))).map palAndStatus) =
    List.replicate 5 (some [0xFF0000FF, 0xFFFF0000, 0xFF5500AA, 0xFFAA0055, 0x19]) := by decide

/-- V-C8. -/
theorem test_command_by_write :
    (nextOf (step (host [writeAt start.params 0x08 0x21] start))).map palAndStatus =
    some [0xFF0000FF, 0xFFFF0000, 0xFFA1045E, 0xFF5E04A1, 0x09] := by decide

/-- V-C10: a legal command runs while `ILL` is 1. -/
theorem test_ill_gates_nothing :
    statusAndReply (writeAt start.params 0x08 0x01) (flagged true false) = some (0x19, none) := by decide

/-- The example of 43_control.md R151, V-C12, V-C13. -/
theorem test_write_one_to_clear :
    statusAndReply (writeAt start.params 0x0C 0x10) (flagged true true) = some (0x29, none) ∧
    statusAndReply (writeAt start.params 0x0C 0x0F) (flagged true true) = some (0x39, none) ∧
    statusAndReply (writeAt start.params 0x0C 0xFFFFFFFF) (flagged true true) = some (0x09, none) := by
  decide

/-- V-C14, and `rd PAL2`, `rd STATUS` of the start state. -/
theorem test_reads :
    statusAndReply (readAt start.params 0x08) start = some (0x09, some [0, 0, 0, 0]) ∧
    statusAndReply (readAt start.params 0x88) start = some (0x09, some [0xAA, 0x00, 0x55, 0xFF]) ∧
    statusAndReply (readAt start.params 0x0C) start = some (0x09, some [0x09, 0, 0, 0]) := by decide

/-- V-M1, V-M2, V-M3, V-M8. -/
theorem test_read_only_and_unmapped :
    statusAndReply (writeAt start.params 0x80 0x12345678) start = some (0x29, none) ∧
    statusAndReply (readAt start.params 0x14) start = some (0x29, some [0, 0, 0, 0]) ∧
    statusAndReply (writeAt start.params 0xA0 1) start = some (0x29, none) ∧
    statusAndReply (writeAt start.params 0x9C 0) start = some (0x29, none) := by decide

/-- V-M4, V-M5, V-M6, V-M7. -/
theorem test_width_and_alignment :
    statusAndReply (.write 0x00 [0xAA]) start = some (0x29, none) ∧
    statusAndReply (.read 0x82 4) start = some (0x29, some [0, 0, 0, 0]) ∧
    statusAndReply (.write 0x08 [0x30, 0x00]) start = some (0x29, none) ∧
    statusAndReply (.read 0x98 8) start = some (0x29, some [0, 0, 0, 0, 0, 0, 0, 0]) := by decide

/-- V-M9, V-M10, V-M12. -/
theorem test_operand_writes :
    (nextOf (step (host [writeAt start.params 0x10 0xFFFFFFFF] start))).map (readReg .cw) =
      some 0x00FFFFFF ∧
    (nextOf (step (host [writeAt start.params 0x4C 0x11223344] start))).map (fun t => t.tex[3]) =
      some ⟨0x44, 0x33, 0x22, 0x11⟩ ∧
    (nextOf (step (host [writeAt start.params 0x24 0x44332211] start))).map
      (fun t => [t.tw[3], t.tw[4], t.tw[5], t.tw[6], t.tw[7], t.tw[8]]) =
      some [0, 0x11, 0x22, 0x33, 0x44, 0] := by decide

/-- V-M11, V-M13: the index write, and an endpoint write that leaves the palette alone. -/
theorem test_block_writes :
    (nextOf (step (host [writeAt start.params 0x04 0xE4E4E4E4] start))).map
      (fun t => (List.finRange 16).map (idx t.blk)) =
      some [0, 1, 2, 3, 0, 1, 2, 3, 0, 1, 2, 3, 0, 1, 2, 3] ∧
    (nextOf (step (host [writeAt start.params 0x00 0xF800001F] start))).map palAndStatus =
      some [0xFF0000FF, 0xFFFF0000, 0xFF5500AA, 0xFFAA0055, 0x09] := by decide

/-- The byte order example of 95_test_vectors.md 2.6. -/
theorem test_byte_order :
    (nextOf (step (host [.write 0x04 [0xD5, 0xFF, 0xAA, 0x02]] start))).map (fun t => t.blk) =
      some 0x02AAFFD5001FF800 := by decide

/-- V-R1, V-R3: reset clears all six flags. -/
theorem test_reset : statusAndReply .reset (flagged true true) = some (0x00, none) := by decide

/-- V-R5, its command: PALGEN needs the endpoints only, whatever the other operands hold. -/
theorem test_fetch_word :
    (nextOf (step (State.withFetchWord (block 0xABCDEF01001FF800) 32 0x01))).map
      (fun t => (palAndStatus t, t.pending)) =
      some ([0xFF0000FF, 0xFFFF0000, 0xFF5500AA, 0xFFAA0055, 0x09], []) := by decide

/-! ## Witnesses: states and operands that meet the hypotheses of each statement -/

/-- A unit at another base address. -/
def based : State := { start with params := { Config.defaults with base := ⟨0x1000, by decide⟩ } }

theorem witness_DecodeAndEncodeAgree :
    (Instr.wevalVb).wellFormed = true ∧ decodeBytes [0x23, 0, 0, 0, 0xFF] = .ok (.wevalVb, [0xFF]) := by
  decide

theorem witness_StepRunsTheDecodedCommand :
    (host [.write (based.params.base.addr + 0x08) [0x12, 0, 0, 0], .reset] based).pending =
      .write (based.params.base.addr + 0x08) [0x12, 0, 0, 0] :: [.reset] ∧
    decodeBytes [0x12, 0, 0, 0] = .ok (.evalVa, []) := ⟨rfl, by decide⟩

theorem witness_CommandWriteExecutesByItsFields :
    (Legal 0x40 = false ∧ Legal 0x30 = false ∧ Legal 0x04 = false) ∧
    (∀ w : Word, (host [writeAt based.params 0x08 w] based).pending =
      writeAt based.params 0x08 w :: []) ∧
    (∀ i : Instr, Legal (encodeWord i) = true ∧ (encodeWord i).extractLsb' 4 2 = decoderCode i.dec ∧
      (encodeWord i).extractLsb' 0 4 = opCode i.op) :=
  ⟨by decide, fun _ => rfl, fun i => by cases i <;> decide⟩

theorem witness_IllegalWordSetsIllAndNothingElse :
    (host [writeAt start.params 0x08 0x40] start).pending = writeAt start.params 0x08 0x40 :: [] ∧
    (0x40 : Word).getLsbD 6 = true ∧ (0x80000001 : Word).getLsbD 31 = true ∧
    (0x30 : Word).extractLsb' 4 2 = 3 ∧ 4 ≤ ((0x04 : Word).extractLsb' 0 4).toNat ∧
    4 ≤ ((0x0F : Word).extractLsb' 0 4).toNat := by decide

/-- A read of the lowest and of the highest operand, and a write of no operand. -/
theorem witness_OperandsStayUntilTheHostWritesThem :
    (nextOf (step (host [readAt start.params 0x00] start))).isSome = true ∧
    (nextOf (step (host [readAt start.params 0x7C] start))).isSome = true ∧
    (nextOf (step (host [writeAt start.params 0x08 0x03] start))).isSome = true ∧
    readAt start.params 0x00 ≠ .reset ∧
    (∀ v, readAt start.params 0x00 ≠ writeAt start.params 0x00 v) ∧
    (∀ v, readAt start.params 0x7C ≠ writeAt start.params (0x40 + 4 * 15) v) ∧
    (∀ v, readAt start.params 0x2C ≠ writeAt start.params (0x20 + 4 * (15 / 4)) v) :=
  ⟨by decide, by decide, by decide, nofun, nofun, nofun, nofun⟩

/-- Both modes at their boundary: `col0` = `col1` + 1 and `col0` = `col1`. -/
theorem witness_modes :
    FourColor (block 0x00000001) ∧ FourColor (block 0xFFFEFFFF) ∧ ¬FourColor (block 0x84108410) ∧
    ¬FourColor (block 0xFFFF0000) := by
  unfold FourColor
  decide

theorem witness_ModeFlagComparesPackedEndpoints :
    [Instr.palgenRef, .palgenVa, .palgenVb, .evalRef, .evalVa, .evalVb, .wevalRef, .wevalVa,
      .wevalVb].all (fun i => i.op != .nop) = true := by decide

theorem witness_EntriesZeroAndOneAreTheEndpoints : Instr.op .palgenVa ≠ .nop := by decide

theorem witness_AlphaAndTheTransparentEntry :
    Instr.op .evalVb ≠ .nop ∧ FourColor (block 0x00000001) ∧ ¬FourColor (block 0x84108410) :=
  ⟨by decide, witness_modes.1, witness_modes.2.2.1⟩

theorem witness_ReferenceFourColorEntries :
    Instr.evalRef ∈ [Instr.palgenRef, .evalRef, .wevalRef] ∧ FourColor (block 0x00000001) :=
  ⟨by decide, witness_modes.1⟩

theorem witness_ReferenceThreeColorEntries :
    Instr.wevalRef ∈ [Instr.palgenRef, .evalRef, .wevalRef] ∧ ¬FourColor (block 0x84108410) ∧
    (block 0x84108410).blk.extractLsb' 0 16 = (block 0x84108410).blk.extractLsb' 16 16 :=
  ⟨by decide, witness_modes.2.2.1, by decide⟩

theorem witness_VendorBFourColorEntries :
    Instr.palgenVb ∈ [Instr.palgenVb, .evalVb, .wevalVb] ∧ FourColor (block64 0x001FF800) ∧
    (block64 0x001FF800).params.vbDiv.val = 64 ∧ FourColor (block 0x00000001) ∧
    (block 0x00000001).params.vbDiv.val = 8 :=
  ⟨by decide, by unfold FourColor; decide, rfl, witness_modes.1, rfl⟩

theorem witness_VendorBThreeColorEntries :
    Instr.evalVb ∈ [Instr.palgenVb, .evalVb, .wevalVb] ∧ ¬FourColor (block 0x84108410) ∧
    (block 0x84108410).blk.extractLsb' 0 16 = (block 0x84108410).blk.extractLsb' 16 16 :=
  ⟨by decide, witness_modes.2.2.1, by decide⟩

theorem witness_VendorAFourColorRedAndBlue :
    Instr.wevalVa ∈ [Instr.palgenVa, .evalVa, .wevalVa] ∧ FourColor (block 0xFFFEFFFF) ∧
    (block 0xFFFEFFFF).params.paletteVA = .reconstruction :=
  ⟨by decide, witness_modes.2.1, rfl⟩

theorem witness_VendorAFourColorGreen :
    Instr.palgenVa ∈ [Instr.palgenVa, .evalVa, .wevalVa] ∧ FourColor (block 0x00200400) ∧
    (block 0x00200400).params.paletteVA = .reconstruction :=
  ⟨by decide, by unfold FourColor; decide, rfl⟩

/-- Also a `VA_G3_COEF` under which the quotient is no u8: greens 0 and 255, coefficient 300. -/
theorem witness_VendorAThreeColorEntries :
    Instr.evalVa ∈ [Instr.palgenVa, .evalVa, .wevalVa] ∧ ¬FourColor (block 0xFFFF0000) ∧
    (block 0xFFFF0000).params.paletteVA = .reconstruction ∧
    (block 0xFFFF0000).params.vaG3Coef = 128 ∧
    (0 ≤ va3Quotient 128 0 255 ∧ va3Quotient 128 0 255 ≤ 255) ∧ 255 < va3Quotient 300 0 255 :=
  ⟨by decide, witness_modes.2.2.2, rfl, rfl, by decide, by decide⟩

/-- Two blocks that differ in their indices, under an instance of `PaletteVA` that is not the default. -/
theorem witness_VendorAPropertiesOfEveryInstance :
    let p : Params := { Config.defaults with paletteVA := .uninterpreted 7 }
    let s : State := { block 0x0000000000000001 with params := p }
    let s' : State := { block 0xFFFFFFFF00000001 with params := p }
    Instr.evalVa ∈ [Instr.palgenVa, .evalVa, .wevalVa] ∧ s.params.paletteVA = s'.params.paletteVA ∧
    s.params.vaG3Coef = s'.params.vaG3Coef ∧ s.blk.extractLsb' 0 32 = s'.blk.extractLsb' 0 32 ∧
    s ≠ s' ∧ s.blk.extractLsb' 0 16 ≠ s.blk.extractLsb' 16 16 := by decide

theorem witness_PaletteDependsOnEndpointsOnly :
    Instr.op .palgenVb ≠ .nop ∧ Instr.op .wevalVb ≠ .nop ∧ Instr.dec .palgenVb = Instr.dec .wevalVb ∧
    (block 0x001FF800).params = start.params ∧
    (block 0xAAAAAAAA001FF800).blk.extractLsb' 0 32 = start.blk.extractLsb' 0 32 ∧
    block 0xAAAAAAAA001FF800 ≠ start := by decide

/-- The red of the endpoints agrees, green and blue do not, and both blocks are 4-color. -/
theorem witness_ChannelsDoNotMix :
    Instr.op .evalVa ≠ .nop ∧ (block 0x0000FFFF).params = (block 0x0000F800).params ∧
    (block 0x0000FFFF).params.paletteVA = .reconstruction ∧
    (FourColor (block 0x0000FFFF) ↔ FourColor (block 0x0000F800)) ∧
    (p0 (block 0x0000FFFF)).r = (p0 (block 0x0000F800)).r ∧
    (p1 (block 0x0000FFFF)).r = (p1 (block 0x0000F800)).r ∧
    (p0 (block 0x0000FFFF)).g ≠ (p0 (block 0x0000F800)).g := by
  unfold FourColor
  decide

theorem witness_LawsOfThePalette :
    Config.defaults.paletteVA = .reconstruction ∧ Config.defaults.vaG3Coef = 128 ∧
    (block64 0).params.vbDiv.val = 64 ∧ Config.defaults.vbDiv.val = 8 ∧ mode4 0xF800 0x001F = true := by
  decide

/-- Texels that differ from the grey ramp in their alphas only. -/
theorem witness_TexelAlphaIsNeverRead :
    let tex : Vector Rgba 16 := Vector.ofFn fun k => { texGrey[k] with a := 0 }
    (∀ k : Fin 16, texGrey[k].r = tex[k].r ∧ texGrey[k].g = tex[k].g ∧ texGrey[k].b = tex[k].b) ∧
    texGrey ≠ tex := by decide

theorem witness_ErrNeverExceedsItsBound : Instr.op .evalRef = .eval ∧ Instr.op .evalVa = .eval := by
  decide

theorem witness_WerrNeverExceedsItsBound : Instr.op .wevalRef = .weval ∧ Instr.op .wevalVb = .weval := by
  decide

/-- V-E1: the texels of a two-cluster block are its palette colours, and a texel of another alpha. -/
theorem witness_DecodeThenEvaluateIsZero :
    let tex : Vector Rgba 16 := Vector.ofFn fun k =>
      if k.val < 8 then .ofWord 0x000000FF else .ofWord 0xFFFF0000
    let s : State := { block 0x55550000001FF800 with tex := tex }
    ∀ k : Fin 16, SameRgb (pal (Instr.dec .evalVb) s)[idx s.blk k] s.tex[k] := by
  unfold SameRgb
  decide

theorem witness_WeightedErrorIsMonotone :
    let s : State := { opsT 0x39E77BEF with tw := Vector.replicate 16 1, cw := ⟨0, 7, 255⟩ }
    Instr.op .wevalVa = .weval ∧
    (∀ k : Fin 16, s.tw[k].toNat ≤ (Vector.replicate 16 (255 : Byte))[k].toNat) ∧
    s.cw.mR.toNat ≤ (1 : Byte).toNat ∧ s.cw.mG.toNat ≤ (7 : Byte).toNat ∧
    s.cw.mB.toNat ≤ (255 : Byte).toNat := by decide

theorem witness_UnitWeightsGiveTheUnweightedError :
    let s : State := { opsT 0x39E77BEF with tw := Vector.replicate 16 1, cw := ⟨1, 1, 1⟩ }
    Instr.op .evalVa = .eval ∧ Instr.op .wevalVa = .weval ∧ Instr.dec .evalVa = Instr.dec .wevalVa ∧
    (∀ k : Fin 16, s.tw[k] = 1) ∧ s.cw = ⟨1, 1, 1⟩ := by decide

theorem witness_WerrScalesToTheRealError :
    Instr.op .wevalRef = .weval ∧ (0 : ℝ) < 1 ∧ (0 : ℝ) < 255 := ⟨by decide, by norm_num, by norm_num⟩

/-- Two histories with the same operands: different results, flags and sticky flags. -/
theorem witness_ResultsDependOnOperandsOnly :
    Instr.op .wevalVb ≠ .nop ∧ (flagged true true).params = (block 0x001FF800).params ∧
    (flagged true true).blk = (block 0x001FF800).blk ∧ (flagged true true).tex = (block 0x001FF800).tex ∧
    (flagged true true).tw = (block 0x001FF800).tw ∧ (flagged true true).cw = (block 0x001FF800).cw ∧
    flagged true true ≠ block 0x001FF800 := by decide

/-- The clauses of the two statements about aligned accesses, at an offset: their conditions. -/
def clauses (off : Nat) : List Bool :=
  [off == 0x00, off == 0x04, off == 0x08, off == 0x0C, off == 0x10,
    (List.range 4).any fun j => off == 0x20 + 4 * j,
    (List.range 16).any fun k => off == 0x40 + 4 * k,
    [0x80, 0x84, 0x88, 0x8C].contains off, off == 0x90, off == 0x98, off == 0x9C,
    off % 4 == 0 && (0x14 ≤ off && off ≤ 0x1C || 0x30 ≤ off && off ≤ 0x3C || off == 0x94 ||
      0xA0 ≤ off && off ≤ 0xFC)]

/-- Every aligned offset of the window falls under exactly one clause. -/
theorem witness_clauses_partition_the_window :
    ∀ n ∈ List.range 64, (clauses (4 * n)).count true = 1 := by decide

/-- Boundary offsets of every clause: the input is a read or a write there. -/
theorem witness_AlignedReadReturnsItsRegister :
    ∀ off ∈ [0x00, 0x04, 0x08, 0x0C, 0x10, 0x20, 0x2C, 0x40, 0x7C, 0x80, 0x8C, 0x90, 0x98, 0x9C, 0x14,
      0x1C, 0x30, 0x3C, 0x94, 0xA0, 0xFC],
    (host [readAt based.params off] based).pending = readAt based.params off :: [] := by decide

theorem witness_AlignedWriteChangesItsRegister :
    ∀ off ∈ [0x00, 0x04, 0x08, 0x0C, 0x10, 0x20, 0x2C, 0x40, 0x7C, 0x80, 0x8C, 0x90, 0x98, 0x9C, 0x14,
      0x1C, 0x30, 0x3C, 0x94, 0xA0, 0xFC],
    (host [writeAt based.params off 0x89ABCDEF] based).pending =
      writeAt based.params off 0x89ABCDEF :: [] := by decide

theorem witness_UnmappedOffsetOnlySetsAcc :
    Unmapped 0x14 ∧ Unmapped 0x1C ∧ Unmapped 0x30 ∧ Unmapped 0x3C ∧ Unmapped 0x94 ∧ Unmapped 0xA0 ∧
    Unmapped 0xFC ∧ ¬Unmapped 0x10 ∧ ¬Unmapped 0x20 ∧ ¬Unmapped 0x90 ∧ ¬Unmapped 0x98 ∧
    ReadOnly 0x80 ∧ ReadOnly 0x9C ∧ ¬ReadOnly 0x94 := by
  simp [Unmapped, ReadOnly]

theorem witness_UnsupportedAccessOnlySetsAcc :
    (host [.read (based.params.base.addr + 255) 4] based).pending =
      .read (based.params.base.addr + 255) 4 :: [] ∧
    (host [.write (based.params.base.addr + 0) [0xAA]] based).pending =
      .write (based.params.base.addr + 0) [0xAA] :: [] ∧
    255 < 256 ∧ 255 % 4 ≠ 0 ∧ ([0xAA] : List Byte).length ≠ 4 ∧ 8 ≠ 4 := by decide

/-- The bytes just below and just above the window; the read at 0xFFF runs into the window (log 11). -/
theorem witness_AccessOutsideTheWindowChangesNothing :
    (0xFFF < based.params.base.addr ∨ based.params.base.addr + 256 ≤ 0xFFF) ∧
    (0x1100 < based.params.base.addr ∨ based.params.base.addr + 256 ≤ 0x1100) ∧
    (host [.read 0xFFF 4] based).pending = .read 0xFFF 4 :: [] ∧
    (host [.write 0x1100 [1, 2, 3, 4]] based).pending = .write 0x1100 [1, 2, 3, 4] :: [] := by decide

theorem witness_BytesAreLittleEndian :
    (host [.write (based.params.base.addr + 0x00) [0x00, 0xF8, 0x1F, 0x00]] based).pending =
      .write (based.params.base.addr + 0x00) [0x00, 0xF8, 0x1F, 0x00] :: [] ∧
    (host [.write (based.params.base.addr + 0x04) [0xD5, 0xFF, 0xAA, 0x02]] based).pending =
      .write (based.params.base.addr + 0x04) [0xD5, 0xFF, 0xAA, 0x02] :: [] ∧
    (host [.write (based.params.base.addr + (0x40 + 4 * 15)) [0xAA, 0x00, 0x55, 0xFF]] based).pending =
      .write (based.params.base.addr + (0x40 + 4 * 15)) [0xAA, 0x00, 0x55, 0xFF] :: [] := by decide

theorem witness_WriteThenReadReturnsTheWord :
    IsOperand (.tex 15) ∧ IsOperand .cw ∧
    (host [writeAt based.params (WindowReg.cw).offset 0xFFFFFFFF,
        readAt based.params (WindowReg.cw).offset] based).pending =
      writeAt based.params (WindowReg.cw).offset 0xFFFFFFFF ::
        readAt based.params (WindowReg.cw).offset :: [] := ⟨trivial, trivial, by decide⟩

/-- A command, and a write to `STATUS` that clears only the other flag. -/
theorem witness_StickyFlagsStayAndGateNothing :
    (nextOf (step (host [writeAt start.params 0x08 0x02] (flagged true true)))).isSome = true ∧
    writeAt start.params 0x08 0x02 ≠ .reset ∧ writeAt start.params 0x0C 0x20 ≠ .reset ∧
    (0x20 : Word).getLsbD 4 = false ∧ (0x10 : Word).getLsbD 5 = false ∧
    (flagged true true).status.ill = true ∧ (flagged true true).status.acc = true := by decide

theorem witness_StatusWriteOnlyClearsStickyFlags :
    (host [writeAt start.params 0x0C 0x30] (flagged true true)).pending =
      writeAt (flagged true true).params 0x0C 0x30 :: [] := by decide

theorem witness_ValidFlagsFollowTheLatestCommand :
    (host [writeAt start.params 0x08 (encodeWord .wevalRef)] start).pending =
      writeAt start.params 0x08 (encodeWord .wevalRef) :: [] ∧
    (nextOf (step (host [.reset] start))).isSome = true ∧
    (nextOf (step (host [writeAt start.params 0x08 0x30] start))).isSome = true ∧
    writeAt start.params 0x08 0x30 ≠ .reset ∧
    (∀ i, writeAt start.params 0x08 0x30 ≠ writeAt start.params 0x08 (encodeWord i)) :=
  ⟨by decide, by decide, by decide, by decide, fun i => by cases i <;> decide⟩

theorem witness_OneTransactionRaisesAtMostOneEvent :
    (nextOf (step (host [writeAt start.params 0x08 0x30] start))).isSome = true ∧
    (host [.write (based.params.base.addr + 0x08) [0x30, 0]] based).pending =
      .write (based.params.base.addr + 0x08) [0x30, 0] :: [] ∧
    (host [.write (based.params.base.addr + 0x0B) [0x30, 0, 0, 0]] based).pending =
      .write (based.params.base.addr + 0x0B) [0x30, 0, 0, 0] :: [] ∧
    ([0x30, 0] : List Byte).length ≠ 4 ∧ ([0x30, 0, 0, 0] : List Byte).length = 4 := by decide

theorem witness_ResultsAreSnapshots :
    IsOperand .blkLo ∧ (host [writeAt start.params (WindowReg.blkLo).offset 0xF800001F] start).pending =
      writeAt start.params (WindowReg.blkLo).offset 0xF800001F :: [] := ⟨trivial, by decide⟩

/-- With flags up, and with the ghost bit 1. -/
theorem witness_ResetEventClearsTheFlags :
    (host [.reset, readAt start.params 0x0C] { flagged true true with errorSeen := true }).pending =
      .reset :: [readAt start.params 0x0C] := by decide

theorem witness_ParametersAreConstants :
    (nextOf (step (host [.reset] (block64 0x001FF800)))).isSome = true := by decide

/-- Inputs that raise an event, at the boundaries of each cause, and inputs that raise none. -/
theorem witness_RaisesEvent :
    RaisesEvent based.params (.read 0x10FF 4) ∧ RaisesEvent based.params (.read 0x1000 8) ∧
    RaisesEvent based.params (.read 0x1014 4) ∧ RaisesEvent based.params (.write 0x10FC [0, 0, 0, 0]) ∧
    RaisesEvent based.params (.write 0x1080 [0, 0, 0, 0]) ∧
    RaisesEvent based.params (.write 0x1008 (bytesOfWord 0x04)) ∧
    ¬RaisesEvent based.params .reset ∧ ¬RaisesEvent based.params (.read 0x109C 4) ∧
    ¬RaisesEvent based.params (.write 0x100C [0x30, 0, 0, 0]) ∧
    ¬RaisesEvent based.params (.read 0xFFF 4) ∧ ¬RaisesEvent based.params (.write 0x1100 [1]) := by
  simp only [RaisesEvent, Unmapped, ReadOnly, show based.params.base.addr = 0x1000 from rfl]
  refine ⟨by simp, by simp, by simp, by simp, by simp,
    ⟨by simp, .inr (.inr (.inr (.inr ⟨trivial, 0x04, rfl, by decide⟩)))⟩, by simp, by simp, by simp,
    by simp, by simp⟩

/-- A step with an input that raises an event and clears nothing, one that clears flags, a reset, and no
input; and a run that raises an event, clears the flag and resets. -/
theorem witness_RunTakesEveryInput :
    (nextOf (step (host [.read 0x14 4] start))).map State.errorSeen = some true ∧
    (nextOf (step (host [writeAt start.params 0x0C 0x30]
      { flagged true true with errorSeen := true }))).map State.errorSeen = some true ∧
    (nextOf (step (host [.reset] { flagged true true with errorSeen := true }))).map State.errorSeen =
      some true ∧
    (nextOf (step start)).map State.errorSeen = some false ∧ start.pending = [] ∧
    ErrorsAreSeen (host [.read 0x14 4, writeAt start.params 0x0C 0x30, .reset] start) := by
  unfold ErrorsAreSeen
  decide

/-- The state an EVAL leaves, with a sticky flag, about to run a WEVAL. -/
theorem witness_EveryStepKeepsTheInvariant :
    let s : State := host [writeAt start.params 0x08 0x13]
      (afterEval .reference { opsT 0x39E77BEF with
        status := ⟨false, false, false, false, true, false⟩, errorSeen := true })
    Inv s ∧ (nextOf (step s)).isSome = true := by
  refine ⟨⟨fun _ => rfl, ⟨fun _ => rfl, fun _ => rfl, fun _ => rfl, by decide⟩, fun _ =>
    ⟨⟨0xEB515E3339E77BEF, texT, twW8, .ofWord 0x000EEAA9, .reference⟩, rfl, rfl, fun _ => ?_, nofun⟩⟩, ?_⟩
  all_goals decide

theorem witness_EvaluateErrorComputesItsSum :
    let raw : Vector Byte 64 := Vector.ofFn fun k => BitVec.ofNat 8 k.val
    let events := evaluateError based.params #v[0x00, 0xF8, 0x1F, 0x00, 0xD5, 0xFF, 0xAA, 0x02] raw .vendorB
    (host (events ++ [.reset]) based).pending = events ++ [.reset] ∧ events.length = 20 := by decide

end Sys2Proof.Tests
end

section
/-! The results of a command as expressions in its operand registers (00_scope.md R9). -/

open Sys2Proof Sys2Proof.Machine Sys2Proof.Claims

namespace Sys2Proof.Proofs

/-- Every result register that a palette-making command writes, in terms of the operand registers and
the parameters alone (41_palette.md R111, 42_error.md R134, R137). -/
theorem exec_results {i : Instr} (s : State) (h : i.op ≠ .nop) :
    ∃ t, exec i s = .next t ∧ t.pal = (blockPalette s.params s.blk i.dec).entries ∧
      t.status.mode4 = (blockPalette s.params s.blk i.dec).mode4 ∧
      (i.op = .eval →
        t.err = BitVec.ofNat 32 (sse (blockPalette s.params s.blk i.dec).entries s.blk s.tex)) ∧
      (i.op = .weval → t.werr = BitVec.ofNat 64
        (wsse (blockPalette s.params s.blk i.dec).entries s.blk s.tex s.tw s.cw)) := by
  cases ho : i.op with
  | nop => exact absurd ho h
  | palgen => exact ⟨_, exec_of_palgen s ho, by simp⟩
  | eval => exact ⟨_, exec_of_eval s ho, by simp⟩
  | weval => exact ⟨_, exec_of_weval s ho, by simp⟩

/-- Settles O41: both states give the same expressions in equal operands and parameters. -/
theorem resultsDependOnOperandsOnly : Obligations.ResultsDependOnOperandsOnly := by
  intro i s s' hop hparams hblk htex htw hcw
  obtain ⟨t, ht, hpal, hmode, herr, hwerr⟩ := exec_results s hop
  obtain ⟨t', ht', hpal', hmode', herr', hwerr'⟩ := exec_results s' hop
  rw [← hparams, ← hblk] at hpal' hmode' herr' hwerr'
  rw [← htex] at herr' hwerr'
  rw [← htw, ← hcw] at hwerr'
  exact ⟨t, t', ht, ht', hpal.trans hpal'.symm, hmode.trans hmode'.symm,
    fun he => (herr he).trans (herr' he).symm, fun hw => (hwerr hw).trans (hwerr' hw).symm⟩

end Sys2Proof.Proofs
end

section
/-! What one step does to the parameters, to the operand registers and to the result registers with their
flags, each said once (10_state.md R18 to R22, R27, R28). -/

open Sys2Proof Sys2Proof.Machine Sys2Proof.Claims

namespace Sys2Proof.Proofs

section decoding

/-- Only the number of an operation decodes to it (30_encoding.md R61). -/
theorem opCode_of_opOfField {f : BitVec 4} {o : Op} (h : opOfField f = some o) : f = opCode o := by
  revert f o
  decide

/-- Only the number of a decoder rule decodes to it (30_encoding.md R62). -/
theorem decoderCode_of_decoderOfField {f : BitVec 2} {d : Decoder} (h : decoderOfField f = some d) :
    f = decoderCode d := by
  revert f d
  decide

/-- A word is put together from its three fields (30_encoding.md R60). -/
theorem fields_append (w : Word) : rsvField w ++ decField w ++ opField w = w := by
  apply BitVec.eq_of_getLsbD_eq
  intro i hi
  simp only [rsvField, decField, opField, BitVec.getLsbD_append, BitVec.getLsbD_extractLsb']
  grind

/-- The only word that decodes to a command is the word of that command (30_encoding.md R66). -/
theorem eq_encodeWord_of_decodeWord {w : Word} {i : Instr} (h : decodeWord w = .ok i) :
    w = encodeWord i := by
  obtain ⟨hrsv, hdec, hop⟩ := decodeWord_ok h
  rw [encodeWord, ← opCode_of_opOfField hop, ← decoderCode_of_decoderOfField hdec, ← hrsv]
  exact (fields_append w).symm

/-- The word of a command decodes to it (30_encoding.md R66). -/
theorem decodeWord_encodeWord (i : Instr) : decodeWord (encodeWord i) = .ok i := by
  cases i <;> rfl

/-- A step that takes the write of a command's word to `CMD` runs that command (30_encoding.md R65). -/
theorem step_command {s : State} {rest : List HostEvent} {i : Instr}
    (hp : s.pending = writeAt s.params 0x08 (encodeWord i) :: rest) :
    step s = exec i (accept rest s) := by
  rw [step_writeAt hp (by decide) (by decide)]
  simp [writeWord, registerAt, execute, decodeWord_encodeWord]

end decoding

section commands

/-- Settles O9, by the operation of the command. -/
theorem commandsCompleteAndKeepTheRest : Obligations.CommandsCompleteAndKeepTheRest := by
  intro i s
  cases ho : i.op with
  | nop => exact ⟨s, exec_of_nop s ho, by simp⟩
  | palgen => exact ⟨_, exec_of_palgen s ho, by simp⟩
  | eval => exact ⟨_, exec_of_eval s ho, by simp⟩
  | weval => exact ⟨_, exec_of_weval s ho, by simp⟩

end commands

section parameters

/-- No command changes a parameter. -/
theorem exec_params {i : Instr} {s t : State} (h : exec i s = .next t) : t.params = s.params := by
  obtain ⟨-, rfl⟩ | ⟨-, rfl⟩ | ⟨-, rfl⟩ | ⟨-, rfl⟩ := exec_cases h <;> rfl

/-- Settles O56, by the cases of a step: none of its operations writes `params`. -/
theorem parametersAreConstants : Obligations.ParametersAreConstants := by
  intro s t h
  obtain ⟨-, rfl⟩ | ⟨e, rest, -, rfl | ⟨w, i, -, -, hx⟩ | ⟨r, v, -, -, rfl⟩ | ⟨ev, rfl⟩ | ⟨b, rfl⟩ |
    ⟨b, rfl⟩ | ⟨-, rfl⟩⟩ := step_cases h
  · rfl
  · rfl
  · exact exec_params (s := accept rest s) hx
  · exact writeReg_params r v (accept rest s)
  · rfl
  · rfl
  · rfl
  · rfl

end parameters

section operands

/-- The operand registers of two states agree. -/
structure OperandsKept (s t : State) : Prop where
  blk : t.blk = s.blk
  tex : t.tex = s.tex
  tw : t.tw = s.tw
  cw : t.cw = s.cw

/-- Taking an input off the host's stream is no change of the operands. -/
theorem OperandsKept.of_accept {s t : State} {rest : List HostEvent}
    (h : OperandsKept (accept rest s) t) : OperandsKept s t := ⟨h.blk, h.tex, h.tw, h.cw⟩

/-- No command writes an operand register (10_state.md R28). -/
theorem exec_keepsOperands {i : Instr} {s t : State} (h : exec i s = .next t) : OperandsKept s t := by
  obtain ⟨-, rfl⟩ | ⟨-, rfl⟩ | ⟨-, rfl⟩ | ⟨-, rfl⟩ := exec_cases h <;> exact ⟨rfl, rfl, rfl, rfl⟩

/-- A step is a reset, or the write of one register, or leaves the operand registers alone. -/
theorem step_operands {s t : State} {e : HostEvent} {rest : List HostEvent}
    (hp : s.pending = e :: rest) (h : step s = .next t) (he : e ≠ .reset) :
    OperandsKept s t ∨
    ∃ r v, e = writeAt s.params r.offset v ∧ t = writeReg r v (accept rest s) := by
  obtain ⟨hn, -⟩ | ⟨e', rest', hp', h⟩ := step_cases h
  · simp [hp] at hn
  obtain ⟨rfl, rfl⟩ : e = e' ∧ rest = rest' := by simpa [hp] using hp'
  obtain rfl | ⟨w, i, -, -, hx⟩ | ⟨r, v, hw, -, ht⟩ | ⟨ev, rfl⟩ | ⟨b, rfl⟩ | ⟨b, rfl⟩ | ⟨hr, -⟩ := h
  · exact .inl ⟨rfl, rfl, rfl, rfl⟩
  · exact .inl (exec_keepsOperands hx).of_accept
  · exact .inr ⟨r, v, hw, ht⟩
  · exact .inl ⟨rfl, rfl, rfl, rfl⟩
  · exact .inl ⟨rfl, rfl, rfl, rfl⟩
  · exact .inl ⟨rfl, rfl, rfl, rfl⟩
  · exact absurd hr he

/-- Bits 31:0 of `BLK` change by a write of `BLK_LO` alone (20_memory.md R45). -/
theorem writeReg_blkLow {r : WindowReg} (h : r ≠ .blkLo) (v : Word) (s : State) :
    (writeReg r v s).blk.extractLsb' 0 32 = s.blk.extractLsb' 0 32 := by
  cases r with
  | blkLo => exact absurd rfl h
  | blkHi => exact BitVec.extractLsb'_append_eq_right
  | _ => rfl

/-- Bits 63:32 of `BLK` change by a write of `BLK_HI` alone (20_memory.md R45). -/
theorem writeReg_blkHigh {r : WindowReg} (h : r ≠ .blkHi) (v : Word) (s : State) :
    (writeReg r v s).blk.extractLsb' 32 32 = s.blk.extractLsb' 32 32 := by
  cases r with
  | blkHi => exact absurd rfl h
  | blkLo => exact BitVec.extractLsb'_append_eq_left
  | _ => rfl

/-- A texel changes by a write of its own register alone (20_memory.md R45). -/
theorem writeReg_tex {r : WindowReg} {k : Fin 16} (h : r ≠ .tex k) (v : Word) (s : State) :
    (writeReg r v s).tex[k] = s.tex[k] := by
  cases r with
  | tex j =>
    have hne : j.val ≠ k.val := fun hjk => h (congrArg WindowReg.tex (Fin.ext hjk))
    exact Vector.getElem_set_ne j.isLt k.isLt hne
  | _ => rfl

/-- A write of `TWj` leaves the weights of the other three words alone (20_memory.md R45). -/
theorem setTwWord_getElem_ne (tw : Vector Byte 16) {j : Fin 4} {k : Fin 16} (h : k.val / 4 ≠ j.val)
    (v : Word) : (setTwWord tw j v)[k] = tw[k] := by
  simp only [setTwWord, Fin.getElem_fin]
  rw [Vector.getElem_set_ne _ _ (by omega), Vector.getElem_set_ne _ _ (by omega),
    Vector.getElem_set_ne _ _ (by omega), Vector.getElem_set_ne _ _ (by omega)]

/-- A texel weight changes by a write of the word that holds it alone (20_memory.md R45). -/
theorem writeReg_tw {r : WindowReg} {k : Fin 16} (h : r ≠ .tw ⟨k.val / 4, by omega⟩) (v : Word)
    (s : State) : (writeReg r v s).tw[k] = s.tw[k] := by
  cases r with
  | tw j =>
    have hne : k.val / 4 ≠ j.val := fun hkj => h (congrArg WindowReg.tw (Fin.ext hkj.symm))
    exact setTwWord_getElem_ne s.tw hne v
  | _ => rfl

/-- The channel weights change by a write of `CW` alone (20_memory.md R45). -/
theorem writeReg_cw {r : WindowReg} (h : r ≠ .cw) (v : Word) (s : State) :
    (writeReg r v s).cw = s.cw := by
  cases r with
  | cw => exact absurd rfl h
  | _ => rfl

/-- Settles O10: a step that writes an operand register is the write of one register, and each part of
the operands changes by the write of its own register alone. -/
theorem operandsStayUntilTheHostWritesThem : Obligations.OperandsStayUntilTheHostWritesThem := by
  intro s t e rest hp h he
  obtain ⟨hblk, htex, htw, hcw⟩ | ⟨r, v, hw, rfl⟩ := step_operands hp h he
  · exact ⟨fun _ => by rw [hblk], fun _ => by rw [hblk], fun _ _ => by rw [htex],
      fun _ _ => by rw [htw], fun _ => hcw⟩
  · have other : ∀ q : WindowReg, (∀ v, e ≠ writeAt s.params q.offset v) → r ≠ q :=
      fun q hq hrq => hq v (hrq ▸ hw)
    exact ⟨fun hq => writeReg_blkLow (other .blkLo hq) v (accept rest s),
      fun hq => writeReg_blkHigh (other .blkHi hq) v (accept rest s),
      fun k hq => writeReg_tex (other (.tex k) hq) v (accept rest s),
      fun k hq => writeReg_tw (other (.tw ⟨k.val / 4, by omega⟩) hq) v (accept rest s),
      fun hq => writeReg_cw (other .cw hq) v (accept rest s)⟩

end operands

section results

/-- The result registers of two states agree, with the flags that guard and describe them. -/
structure ResultsKept (s t : State) : Prop where
  pal : t.pal = s.pal
  err : t.err = s.err
  werr : t.werr = s.werr
  palv : t.status.palv = s.status.palv
  errv : t.status.errv = s.status.errv
  werrv : t.status.werrv = s.status.werrv
  mode4 : t.status.mode4 = s.status.mode4

/-- Taking an input off the host's stream is no change of the results. -/
theorem ResultsKept.of_accept {s t : State} {rest : List HostEvent}
    (h : ResultsKept (accept rest s) t) : ResultsKept s t :=
  ⟨h.pal, h.err, h.werr, h.palv, h.errv, h.werrv, h.mode4⟩

/-- Taking an event leaves the results alone (60_exceptions.md R161, R162). -/
theorem takeError_keepsResults (ev : ErrorEvent) (s : State) : ResultsKept s (takeError ev s) := by
  cases ev <;> exact ⟨rfl, rfl, rfl, rfl, rfl, rfl, rfl⟩

/-- A register write leaves the results alone, whatever the register (70_reset_and_hazards.md R185). -/
theorem writeReg_keepsResults (r : WindowReg) (v : Word) (s : State) :
    ResultsKept s (writeReg r v s) := by
  cases r <;> exact ⟨rfl, rfl, rfl, rfl, rfl, rfl, rfl⟩

/-- A step is a reset, or runs a command, or leaves the results and their flags alone
(10_state.md R19, R20). -/
theorem step_results {s t : State} (h : step s = .next t) :
    (∃ rest, s.pending = .reset :: rest ∧ t = resetUnit (accept rest s)) ∨
    (∃ rest i, s.pending = writeAt s.params 0x08 (encodeWord i) :: rest ∧
      exec i (accept rest s) = .next t) ∨
    ResultsKept s t := by
  obtain ⟨-, rfl⟩ | ⟨e, rest, hp, rfl | ⟨w, i, rfl, hi, hx⟩ | ⟨r, v, -, -, rfl⟩ | ⟨ev, rfl⟩ | ⟨b, rfl⟩ |
    ⟨b, rfl⟩ | ⟨rfl, ht⟩⟩ := step_cases h
  · exact .inr (.inr ⟨rfl, rfl, rfl, rfl, rfl, rfl, rfl⟩)
  · exact .inr (.inr ⟨rfl, rfl, rfl, rfl, rfl, rfl, rfl⟩)
  · exact .inr (.inl ⟨rest, i, eq_encodeWord_of_decodeWord hi ▸ hp, hx⟩)
  · exact .inr (.inr (writeReg_keepsResults r v (accept rest s)).of_accept)
  · exact .inr (.inr (takeError_keepsResults ev (accept rest s)).of_accept)
  · exact .inr (.inr ⟨rfl, rfl, rfl, rfl, rfl, rfl, rfl⟩)
  · exact .inr (.inr ⟨rfl, rfl, rfl, rfl, rfl, rfl, rfl⟩)
  · exact .inl ⟨rest, hp, ht⟩

/-- Settles O51: the flags after each operation, and `step_results` for every other input. -/
theorem validFlagsFollowTheLatestCommand : Obligations.ValidFlagsFollowTheLatestCommand := by
  refine ⟨fun s rest i hp => ?_, fun s t rest hp h => ?_, fun s t e rest hp h he hcmd => ?_⟩
  · rw [step_command hp]
    cases ho : i.op with
    | nop => exact ⟨_, exec_of_nop _ ho, by simp⟩
    | palgen => exact ⟨_, exec_of_palgen _ ho, by simp⟩
    | eval => exact ⟨_, exec_of_eval _ ho, by simp⟩
    | weval => exact ⟨_, exec_of_weval _ ho, by simp⟩
  · rw [step_of_pending hp] at h
    cases h
    exact ⟨rfl, rfl, rfl⟩
  · obtain ⟨rest', hp', -⟩ | ⟨rest', i, hp', -⟩ | hk := step_results h
    · exact absurd (List.cons.inj (hp.symm.trans hp')).1 he
    · exact absurd (List.cons.inj (hp.symm.trans hp')).1 (hcmd i)
    · exact ⟨hk.palv, hk.errv, hk.werrv, hk.mode4⟩

end results

end Sys2Proof.Proofs
end

section
/-! The sums of the error commands fit their registers (42_error.md R135, R138). -/

open Sys2Proof Sys2Proof.Machine

namespace Sys2Proof.Proofs

/-- A sum over the sixteen texels is at most sixteen times a bound of its terms. -/
theorem sumTexels_le {f : Fin 16 → Nat} {b : Nat} (h : ∀ k, f k ≤ b) : sumTexels f ≤ 16 * b := by
  rw [sumTexels_eq_sum]
  simpa using Finset.sum_le_card_nsmul Finset.univ f b fun k _ => h k

/-- Three squares, each at most 65025. -/
theorem sqDist_le (p t : Rgba) : sqDist p t ≤ 195075 := by
  have hr := sqDiff_le p.r t.r
  have hg := sqDiff_le p.g t.g
  have hb := sqDiff_le p.b t.b
  unfold sqDist
  omega

/-- The sum of EVAL is at most 16 * 3 * 255^2 (42_error.md R135). -/
theorem sse_le (pal : Vector Rgba 4) (blk : DWord) (tex : Vector Rgba 16) :
    sse pal blk tex ≤ 3121200 :=
  sumTexels_le fun _ => sqDist_le _ _

/-- One weighted channel is at most 255^4 (42_error.md R138). -/
theorem weightedSqDiff_le (m a b : Byte) : m.toNat * m.toNat * sqDiff a b ≤ 4228250625 := by
  have hm : m.toNat ≤ 255 := by omega
  exact Nat.mul_le_mul (Nat.mul_le_mul hm hm) (sqDiff_le a b)

/-- Three weighted channels, each at most 255^4 (42_error.md R138). -/
theorem wSqDist_le (cw : ChannelWeights) (p t : Rgba) : wSqDist cw p t ≤ 12684751875 := by
  have hr := weightedSqDiff_le cw.mR p.r t.r
  have hg := weightedSqDiff_le cw.mG p.g t.g
  have hb := weightedSqDiff_le cw.mB p.b t.b
  unfold wSqDist
  omega

/-- The sum of WEVAL is at most 16 * 255 * 3 * 255^4 (42_error.md R138). -/
theorem wsse_le (pal : Vector Rgba 4) (blk : DWord) (tex : Vector Rgba 16) (tw : Vector Byte 16)
    (cw : ChannelWeights) : wsse pal blk tex tw cw ≤ 51753787650000 :=
  sumTexels_le fun k => Nat.mul_le_mul (show tw[k].toNat ≤ 255 by omega) (wSqDist_le cw _ _)

/-- `ERR` holds the sum of EVAL exactly. -/
theorem toNat_ofNat_sse (pal : Vector Rgba 4) (blk : DWord) (tex : Vector Rgba 16) :
    (BitVec.ofNat 32 (sse pal blk tex)).toNat = sse pal blk tex := by
  have h := sse_le pal blk tex
  rw [BitVec.toNat_ofNat, Nat.mod_eq_of_lt (by omega)]

/-- `WERR` holds the sum of WEVAL exactly. -/
theorem toNat_ofNat_wsse (pal : Vector Rgba 4) (blk : DWord) (tex : Vector Rgba 16)
    (tw : Vector Byte 16) (cw : ChannelWeights) :
    (BitVec.ofNat 64 (wsse pal blk tex tw cw)).toNat = wsse pal blk tex tw cw := by
  have h := wsse_le pal blk tex tw cw
  rw [BitVec.toNat_ofNat, Nat.mod_eq_of_lt (by omega)]

end Sys2Proof.Proofs
end

section
/-! The invariant of the machine: it holds right after reset and every step keeps it. -/

open Sys2Proof Sys2Proof.Machine

namespace Sys2Proof.Proofs

section errorsAreSeen

/-- A command changes neither sticky flags nor the ghost bit. -/
theorem exec_errorsAreSeen {i : Instr} {s t : State} (h : exec i s = .next t) (hs : ErrorsAreSeen s) :
    ErrorsAreSeen t := by
  obtain ⟨-, rfl⟩ | ⟨-, rfl⟩ | ⟨-, rfl⟩ | ⟨-, rfl⟩ := exec_cases h <;> exact hs

/-- A write of `STATUS` only clears flags. -/
theorem clearSticky_errorsAreSeen (v : Word) {s : State} (hs : ErrorsAreSeen s) :
    ErrorsAreSeen (clearSticky v s) := by
  intro hf
  refine hs (hf.imp ?_ ?_) <;> simp +contextual

/-- A register write raises `ACC` with the ghost bit, clears flags, or changes neither. -/
theorem writeReg_errorsAreSeen (r : WindowReg) (v : Word) {s : State} (hs : ErrorsAreSeen s) :
    ErrorsAreSeen (writeReg r v s) := by
  cases r with
  | status => exact clearSticky_errorsAreSeen v hs
  | pal _ | err | werrLo | werrHi => exact fun _ => rfl
  | _ => exact hs

/-- After every step a flag that is up was seen (60_exceptions.md R168). -/
theorem step_errorsAreSeen {s t : State} (h : step s = .next t) (hs : ErrorsAreSeen s) :
    ErrorsAreSeen t := by
  obtain ⟨-, rfl⟩ | ⟨e, rest, -, rfl | ⟨w, i, -, -, hx⟩ | ⟨r, v, -, -, rfl⟩ | ⟨ev, rfl⟩ | ⟨b, rfl⟩ |
    ⟨b, rfl⟩ | ⟨-, rfl⟩⟩ := step_cases h
  · exact hs
  · exact hs
  · exact exec_errorsAreSeen hx hs
  · exact writeReg_errorsAreSeen r v hs
  · exact fun _ => rfl
  · exact hs
  · exact fun _ => rfl
  · simp [ErrorsAreSeen]

end errorsAreSeen

section flagsAgree

/-- With all valid flags and `MODE4` at 0 the flags agree. -/
theorem flagsAgree_of_cleared {s : State} (h : s.status = Status.cleared) : FlagsAgree s := by
  simp [FlagsAgree, h]

/-- A command sets `PALV` and at most one of `ERRV` and `WERRV`, or changes no flag. -/
theorem exec_flagsAgree {i : Instr} {s t : State} (h : exec i s = .next t) (hs : FlagsAgree s) :
    FlagsAgree t := by
  obtain ⟨-, rfl⟩ | ⟨-, rfl⟩ | ⟨-, rfl⟩ | ⟨-, rfl⟩ := exec_cases h
  · exact hs
  all_goals simp [FlagsAgree]

/-- After every step the flags agree (10_state.md R18 to R22). -/
theorem step_flagsAgree {s t : State} (h : step s = .next t) (hs : FlagsAgree s) : FlagsAgree t := by
  obtain ⟨rest, -, rfl⟩ | ⟨rest, i, -, hx⟩ | hk := step_results h
  · exact flagsAgree_of_cleared rfl
  · exact exec_flagsAgree hx hs
  · simpa only [FlagsAgree, hk.palv, hk.errv, hk.werrv, hk.mode4] using hs

end flagsAgree

section resultsCoherent

/-- With `PALV` at 0 no result is claimed. -/
theorem resultsCoherent_of_cleared {s : State} (h : s.status = Status.cleared) : ResultsCoherent s := by
  simp [ResultsCoherent, h]

/-- What a palette-making command leaves are the results of the operands it found
(10_state.md R21, 00_scope.md R9). -/
theorem exec_resultsOf {i : Instr} {s t : State} (h : exec i s = .next t) (hop : i.op ≠ .nop) :
    ResultsOf ⟨s.blk, s.tex, s.tw, s.cw, i.dec⟩ t := by
  obtain ⟨ho, -⟩ | ⟨-, rfl⟩ | ⟨-, rfl⟩ | ⟨-, rfl⟩ := exec_cases h
  · exact absurd ho hop
  · exact ⟨rfl, rfl, nofun, nofun⟩
  · exact ⟨rfl, rfl, fun _ => toNat_ofNat_sse _ _ _, nofun⟩
  · exact ⟨rfl, rfl, nofun, fun _ => toNat_ofNat_wsse _ _ _ _ _⟩

/-- A command leaves the results of its own operands, or, as NOP does, those it found. -/
theorem exec_resultsCoherent {i : Instr} {s t : State} (h : exec i s = .next t)
    (hs : ResultsCoherent s) : ResultsCoherent t := by
  by_cases hop : i.op = .nop
  · obtain rfl : s = t := by simpa [exec_of_nop s hop] using h
    exact hs
  · exact fun _ => ⟨_, exec_resultsOf h hop⟩

/-- Coherence speaks only of the results, their flags and the parameters. -/
theorem ResultsKept.resultsCoherent {s t : State} (hk : ResultsKept s t) (hp : t.params = s.params)
    (hs : ResultsCoherent s) : ResultsCoherent t := by
  simpa only [ResultsCoherent, ResultsOf, hp, hk.pal, hk.err, hk.werr, hk.palv, hk.errv, hk.werrv,
    hk.mode4] using hs

/-- After every step the valid results are those of one command and one operand state
(10_state.md R21). -/
theorem step_resultsCoherent {s t : State} (h : step s = .next t) (hs : ResultsCoherent s) :
    ResultsCoherent t := by
  obtain ⟨rest, -, rfl⟩ | ⟨rest, i, -, hx⟩ | hk := step_results h
  · exact resultsCoherent_of_cleared rfl
  · exact exec_resultsCoherent hx hs
  · exact hk.resultsCoherent (parametersAreConstants s t h) hs

end resultsCoherent

/-- Settles O58: each part of the invariant is kept by every step. -/
theorem everyStepKeepsTheInvariant : Obligations.EveryStepKeepsTheInvariant := fun _ _ hs h =>
  ⟨step_errorsAreSeen h hs.errorsAreSeen, step_flagsAgree h hs.flagsAgree,
    step_resultsCoherent h hs.resultsCoherent⟩

/-- Settles O59: all flags are 0. -/
theorem invariantHoldsAfterReset : Obligations.InvariantHoldsAfterReset :=
  ⟨by simp [ErrorsAreSeen, State.reset], flagsAgree_of_cleared rfl, resultsCoherent_of_cleared rfl⟩

/-- Settles O55: the zeros of the three vectors are those of `Vector.replicate`, the rest are fields of
`State.reset` and of the default parameters. -/
theorem stateAfterReset : Obligations.StateAfterReset := by
  have htex (k : Fin 16) : State.reset.tex[k] = ⟨0, 0, 0, 0⟩ := Vector.getElem_replicate k.isLt
  have htw (k : Fin 16) : State.reset.tw[k] = 0 := Vector.getElem_replicate k.isLt
  have hpal (n : Fin 4) : State.reset.pal[n] = ⟨0, 0, 0, 0⟩ := Vector.getElem_replicate n.isLt
  exact ⟨rfl, rfl, htex, htw, rfl, hpal, rfl, rfl, rfl, rfl, rfl, rfl, rfl, rfl, rfl⟩

end Sys2Proof.Proofs
end

section
/-! What an access does that names no register: one of another width or alignment, at an unmapped offset,
or outside the window (20_memory.md R40, R46, R47). -/

open Sys2Proof Sys2Proof.Machine Sys2Proof.Claims

namespace Sys2Proof.Proofs

/-- A read in the window that is no aligned 32-bit word is an access error (20_memory.md R46). -/
theorem hostRead_of_unsupported (s : State) {off width : Nat} (hoff : off < 256)
    (h : width ≠ 4 ∨ off % 4 ≠ 0) :
    hostRead (s.params.base.addr + off) width s =
      respond (List.replicate width 0) (takeError .access s) := by
  simp only [hostRead, windowOffset_base _ hoff]
  exact if_neg (by omega)

/-- A write in the window that is no aligned 32-bit word is an access error (20_memory.md R46). -/
theorem hostWrite_of_unsupported (s : State) {off : Nat} {data : List Byte} (hoff : off < 256)
    (h : data.length ≠ 4 ∨ off % 4 ≠ 0) :
    hostWrite (s.params.base.addr + off) data s = .next (takeError .access s) := by
  simp only [hostWrite, windowOffset_base _ hoff]
  split
  next => exact if_neg (h.resolve_left (not_not_intro rfl))
  next => rfl

/-- Settles O44: both kinds of access end in the access error and, for a read, in a reply of zeros. -/
theorem unsupportedAccessOnlySetsAcc : Obligations.UnsupportedAccessOnlySetsAcc := by
  refine ⟨fun s rest off width hp hoff h => ?_, fun s rest off data hp hoff h => ?_⟩
  · rw [step_of_pending hp]
    exact congrArg Host.Outcome.next (hostRead_of_unsupported (accept rest s) hoff h)
  · rw [step_of_pending hp]
    exact hostWrite_of_unsupported (accept rest s) hoff h

/-- The unmapped offsets are aligned offsets of the window (20_memory.md R41). -/
theorem unmapped_bounds {off : Nat} (h : Unmapped off) : off < 256 ∧ off % 4 = 0 := by
  unfold Unmapped at h
  omega

/-- No register stands at an unmapped offset (20_memory.md R41). -/
theorem registerAt_of_unmapped {off : Nat} (h : Unmapped off) : registerAt off = none := by
  cases hr : registerAt off with
  | none => rfl
  | some r =>
    have hoff := offset_of_registerAt hr h.1
    unfold Unmapped at h
    cases r <;> simp only [WindowReg.offset] at hoff <;> omega

/-- A step that reads at an unmapped offset returns zeros (20_memory.md R47). -/
theorem step_readAt_unmapped {s : State} {rest : List HostEvent} {off : Nat} (h : Unmapped off)
    (hp : s.pending = readAt s.params off :: rest) :
    step s = .next (withAcc rest (some [0, 0, 0, 0]) s) := by
  obtain ⟨hoff, ha⟩ := unmapped_bounds h
  rw [step_readAt hp hoff ha]
  simp only [readWord, registerAt_of_unmapped h]
  rfl

/-- A step that writes at an unmapped offset drops the word (20_memory.md R47). -/
theorem step_writeAt_unmapped {s : State} {rest : List HostEvent} {off : Nat} {v : Word}
    (h : Unmapped off) (hp : s.pending = writeAt s.params off v :: rest) :
    step s = .next (withAcc rest none s) := by
  obtain ⟨hoff, ha⟩ := unmapped_bounds h
  rw [step_writeAt hp hoff ha]
  simp only [writeWord, registerAt_of_unmapped h]
  rfl

/-- Settles O45: no register stands at an unmapped offset. -/
theorem unmappedOffsetOnlySetsAcc : Obligations.UnmappedOffsetOnlySetsAcc := fun _ _ _ _ h =>
  ⟨step_readAt_unmapped h, step_writeAt_unmapped h⟩

/-- The unit decodes no address below `BASE` or from `BASE` + 256 on (20_memory.md R40). -/
theorem windowOffset_outside {p : Params} {addr : Nat}
    (h : addr < p.base.addr ∨ p.base.addr + 256 ≤ addr) : windowOffset p addr = none :=
  if_neg (by omega)

/-- Settles O46: the unit decodes no such address, so a read and a write both leave the state in which
the input was taken. -/
theorem accessOutsideTheWindowChangesNothing : Obligations.AccessOutsideTheWindowChangesNothing := by
  intro s rest addr width data haddr hp
  have hw : windowOffset (accept rest s).params addr = none := windowOffset_outside haddr
  obtain hp | hp := hp
  · rw [step_of_pending hp]
    simp only [handle, hostRead, hw]
    rfl
  · rw [step_of_pending hp]
    simp only [handle, hostWrite, hw]
    rfl

end Sys2Proof.Proofs
end

section
/-! What an aligned read or write of a register does, line by line (20_memory.md R44, R45), the order of
bytes in a word (R42, R43), and a read after a write (R50). -/

open Sys2Proof Sys2Proof.Machine Sys2Proof.Claims

namespace Sys2Proof.Proofs

section words

/-- `CW` as read: its three weights under a zero byte (20_memory.md R44). -/
theorem channelWeights_toWord (c : ChannelWeights) :
    c.toWord = (0 : Byte) ++ c.mB ++ c.mG ++ c.mR := by
  apply BitVec.eq_of_getLsbD_eq
  intro i hi
  simp only [ChannelWeights.toWord, BitVec.getLsbD_setWidth, BitVec.getLsbD_append]
  grind

/-- `CW` written and read back loses bits 31:24 (20_memory.md R44, R45). -/
theorem channelWeights_toWord_ofWord (v : Word) :
    (ChannelWeights.ofWord v).toWord = v &&& 0x00FFFFFF := by
  have hlow : (ChannelWeights.ofWord v).toWord = (v.extractLsb' 0 24).setWidth 32 := by
    simp only [ChannelWeights.toWord, ChannelWeights.ofWord]
    rw [BitVec.extractLsb'_append_extractLsb'_eq_extractLsb' (show 16 = 8 + 8 from rfl),
      BitVec.extractLsb'_append_extractLsb'_eq_extractLsb' (show 8 = 0 + 8 from rfl)]
  apply BitVec.eq_of_toNat_eq
  rw [hlow, BitVec.toNat_setWidth_of_le (by decide), BitVec.extractLsb'_toNat]
  exact (Nat.and_two_pow_sub_one_eq_mod v.toNat 24).symm

/-- The bits of `STATUS` as read (10_state.md R18, 20_memory.md R44). -/
theorem status_toWord_bits (f : Status) :
    f.toWord.getLsbD 0 = f.palv ∧ f.toWord.getLsbD 1 = f.errv ∧ f.toWord.getLsbD 2 = f.werrv ∧
      f.toWord.getLsbD 3 = f.mode4 ∧ f.toWord.getLsbD 4 = f.ill ∧ f.toWord.getLsbD 5 = f.acc ∧
      f.toWord.extractLsb' 6 26 = 0 := by
  obtain ⟨palv, errv, werrv, mode4, ill, acc⟩ := f
  revert palv errv werrv mode4 ill acc
  decide

/-- A write of `TWj` puts byte `i` of the word at weight `4j + i` (20_memory.md R45). -/
theorem setTwWord_getElem_same (tw : Vector Byte 16) (j i : Fin 4) (v : Word) :
    (setTwWord tw j v)[4 * j.val + i.val] = v.extractLsb' (8 * i.val) 8 := by
  fin_cases i <;> simp [setTwWord]

/-- `TWj` written and read back is the word written (20_memory.md R44, R45). -/
theorem twWord_setTwWord (tw : Vector Byte 16) (j : Fin 4) (v : Word) :
    twWord (setTwWord tw j v) j = v := by
  have hb (i : Fin 4) := setTwWord_getElem_same tw j i v
  calc twWord (setTwWord tw j v) j
      = wordOfBytes (v.extractLsb' 0 8) (v.extractLsb' 8 8) (v.extractLsb' 16 8)
          (v.extractLsb' 24 8) := congr (congr (congr (congrArg wordOfBytes (hb 0)) (hb 1)) (hb 2)) (hb 3)
    _ = v := wordOfBytes_bytesOfWord v

/-- A byte below another part of a word, as numbers (20_memory.md R42). -/
theorem toNat_append_byte {w : Nat} (hi : BitVec w) (lo : Byte) :
    (hi ++ lo).toNat = lo.toNat + hi.toNat * 2 ^ 8 := by
  rw [BitVec.toNat_append, ← Nat.shiftLeft_add_eq_or_of_lt lo.isLt, Nat.shiftLeft_eq, Nat.add_comm]

/-- The word of four bytes as a number (20_memory.md R42). -/
theorem toNat_wordOfBytes (b0 b1 b2 b3 : Byte) : (wordOfBytes b0 b1 b2 b3).toNat =
    b0.toNat + b1.toNat * 2 ^ 8 + b2.toNat * 2 ^ 16 + b3.toNat * 2 ^ 24 := by
  simp only [wordOfBytes, toNat_append_byte]
  omega

/-- The two halves of four bytes under another part of a register, as numbers (20_memory.md R42). -/
theorem toNat_wordOfBytes_halves {w : Nat} (hi : BitVec w) (b0 b1 b2 b3 : Byte) :
    ((hi ++ wordOfBytes b0 b1 b2 b3).extractLsb' 0 16).toNat = b0.toNat + b1.toNat * 2 ^ 8 ∧
    ((hi ++ wordOfBytes b0 b1 b2 b3).extractLsb' 16 16).toNat = b2.toNat + b3.toNat * 2 ^ 8 := by
  rw [BitVec.extractLsb'_append_eq_of_add_le (by decide),
    BitVec.extractLsb'_append_eq_of_add_le (by decide)]
  simp only [BitVec.extractLsb'_toNat, toNat_wordOfBytes, Nat.shiftRight_eq_div_pow]
  omega

end words

section reads

/-- A step that reads a register returns its word and does nothing else (20_memory.md R44). -/
theorem step_readAt_register {s : State} {rest : List HostEvent} {off : Nat}
    (hp : s.pending = readAt s.params off :: rest) (r : WindowReg) (h : off = r.offset) :
    step s = .next (answered rest (readReg r s) s) := by
  subst h
  rw [step_readReg hp]
  cases r <;> rfl

/-- Settles O42, register by register. -/
theorem alignedReadReturnsItsRegister : Obligations.AlignedReadReturnsItsRegister := by
  intro s rest off hp
  have hr := step_readAt_register hp
  refine ⟨hr .blkLo, hr .blkHi, hr .cmd, fun h => ⟨_, hr .status h, status_toWord_bits s.status⟩,
    fun h => ?_, fun j => hr (.tw j), fun k => hr (.tex k), fun n => hr (.pal n), hr .err, hr .werrLo,
    hr .werrHi, fun h => step_readAt_unmapped h hp⟩
  rw [← channelWeights_toWord]
  exact hr .cw h

end reads

section writes

/-- A step that writes a register other than `CMD` (20_memory.md R45). -/
theorem step_writeAt_register {s : State} {rest : List HostEvent} {off : Nat} {v : Word}
    (hp : s.pending = writeAt s.params off v :: rest) {r : WindowReg} (hc : r ≠ .cmd)
    (h : off = r.offset) : step s = .next (writeReg r v (accept rest s)) := by
  subst h
  exact step_writeReg hc hp

/-- A step that writes `CMD` executes the word (20_memory.md R45). -/
theorem step_writeAt_cmd {s : State} {rest : List HostEvent} {v : Word}
    (hp : s.pending = writeAt s.params 0x08 v :: rest) :
    step s = execute v (accept rest s) := step_writeAt hp (by decide) (by decide)

/-- At the offset of a read-only register stands one whose write is an access error
(20_memory.md R41, R45). -/
theorem exists_readOnly_register {off : Nat} (h : ReadOnly off) :
    ∃ r : WindowReg, r ≠ .cmd ∧ off = r.offset ∧ ∀ v s, writeReg r v s = takeError .access s := by
  simp only [ReadOnly, List.mem_cons, List.not_mem_nil, or_false] at h
  obtain rfl | rfl | rfl | rfl | rfl | rfl | rfl := h
  · exact ⟨.pal 0, nofun, rfl, fun _ _ => rfl⟩
  · exact ⟨.pal 1, nofun, rfl, fun _ _ => rfl⟩
  · exact ⟨.pal 2, nofun, rfl, fun _ _ => rfl⟩
  · exact ⟨.pal 3, nofun, rfl, fun _ _ => rfl⟩
  · exact ⟨.err, nofun, rfl, fun _ _ => rfl⟩
  · exact ⟨.werrLo, nofun, rfl, fun _ _ => rfl⟩
  · exact ⟨.werrHi, nofun, rfl, fun _ _ => rfl⟩

/-- A step that writes a read-only register is an access error (20_memory.md R45). -/
theorem step_writeAt_readOnly {s : State} {rest : List HostEvent} {off : Nat} {v : Word}
    (h : ReadOnly off) (hp : s.pending = writeAt s.params off v :: rest) :
    step s = .next (withAcc rest none s) := by
  obtain ⟨r, hc, hoff, hr⟩ := exists_readOnly_register h
  rw [step_writeAt_register hp hc hoff, hr]
  rfl

/-- Settles O43, register by register. -/
theorem alignedWriteChangesItsRegister : Obligations.AlignedWriteChangesItsRegister := by
  intro s rest off v hp
  have hw {r : WindowReg} (hc : r ≠ .cmd) := step_writeAt_register hp hc
  refine ⟨hw (r := .blkLo) nofun, hw (r := .blkHi) nofun, fun h => step_writeAt_cmd (h ▸ hp),
    hw (r := .status) nofun, hw (r := .cw) nofun, fun j h => ?_, fun k h => ?_,
    fun h => step_writeAt_readOnly h hp, fun h => step_writeAt_unmapped h hp⟩
  · have hb (i : Fin 4) := setTwWord_getElem_same s.tw j i v
    exact ⟨setTwWord s.tw j v, hw (r := .tw j) nofun h, hb 0, hb 1, hb 2, hb 3,
      fun k hk => setTwWord_getElem_ne s.tw hk v⟩
  · refine ⟨s.tex.set k (.ofWord v), hw (r := .tex k) nofun h, Vector.getElem_set_self k.isLt,
      fun m hm => ?_⟩
    exact writeReg_tex (r := .tex k) (fun hkm => hm (WindowReg.tex.inj hkm).symm) v s

end writes

section byteOrder

/-- A write of four bytes at an offset is a write of their word (20_memory.md R42). -/
theorem write_four_bytes (p : Params) (off : Nat) (b0 b1 b2 b3 : Byte) :
    HostEvent.write (p.base.addr + off) [b0, b1, b2, b3] = writeAt p off (wordOfBytes b0 b1 b2 b3) := by
  rw [writeAt, bytesOfWord_wordOfBytes]

/-- Settles O47: a write of four bytes is a write of their word, whose bytes are these in file order. -/
theorem bytesAreLittleEndian : Obligations.BytesAreLittleEndian := by
  refine ⟨fun v i => by fin_cases i <;> rfl, fun s rest b0 b1 b2 b3 => ⟨fun hp => ?_, fun hp => ?_,
    fun k hp => ?_⟩⟩
  all_goals rw [write_four_bytes] at hp
  · refine ⟨_, step_writeAt_register hp (r := .blkLo) nofun rfl, ?_⟩
    exact toNat_wordOfBytes_halves (blkHigh s.blk) b0 b1 b2 b3
  · refine ⟨_, step_writeAt_register hp (r := .blkHi) nofun rfl, ?_⟩
    rw [← toNat_wordOfBytes]
    exact congrArg BitVec.toNat BitVec.extractLsb'_append_eq_left
  · refine ⟨_, step_writeAt_register hp (r := .tex k) nofun rfl, ?_⟩
    exact (Vector.getElem_set_self k.isLt).trans (Rgba.ofWord_toWord ⟨b0, b1, b2, b3⟩)

end byteOrder

section readBack

/-- An operand register is not `CMD` (20_memory.md R41). -/
theorem ne_cmd_of_isOperand {r : WindowReg} (h : IsOperand r) : r ≠ .cmd := fun hc => by
  subst hc
  exact h

/-- An operand register written and read back holds the word written, `CW` without bits 31:24
(20_memory.md R44, R45). -/
theorem readReg_writeReg_same {r : WindowReg} (h : IsOperand r) (v : Word) (s : State) :
    readReg r (writeReg r v s) = if r = .cw then v &&& 0x00FFFFFF else v := by
  cases r with
  | blkLo => exact BitVec.extractLsb'_append_eq_right
  | blkHi => exact BitVec.extractLsb'_append_eq_left
  | cw => exact channelWeights_toWord_ofWord v
  | tw j => exact twWord_setTwWord s.tw j v
  | tex k =>
    exact (congrArg Rgba.toWord (Vector.getElem_set_self k.isLt)).trans (Rgba.toWord_ofWord v)
  | cmd | status | pal _ | err | werrLo | werrHi => exact h.elim

/-- Settles O48: the read takes the state that the write left. -/
theorem writeThenReadReturnsTheWord : Obligations.WriteThenReadReturnsTheWord := by
  intro s rest r v hop hp
  have hread : (writeReg r v (accept (readAt s.params r.offset :: rest) s)).pending =
      readAt (writeReg r v (accept (readAt s.params r.offset :: rest) s)).params r.offset :: rest := by
    simp only [writeReg_pending, writeReg_params, accept_pending, accept_params]
  refine ⟨_, _, step_writeReg (ne_cmd_of_isOperand hop) hp, step_readAt_register hread r rfl, ?_, rfl⟩
  rw [← readReg_writeReg_same hop]
  rfl

end readBack

end Sys2Proof.Proofs
end

section
/-! The decoder against the fields of a word, the list of command words and the rows' masks
(30_encoding.md R60 to R66), and what a write to `CMD` executes (R65). -/

open Sys2Proof Sys2Proof.Machine Sys2Proof.Claims

namespace Sys2Proof.Proofs

section roundTrip

/-- A word decodes to a command exactly when it is that command's word (30_encoding.md R66). -/
theorem decodeWord_eq_ok_iff {w : Word} {i : Instr} : decodeWord w = .ok i ↔ w = encodeWord i :=
  ⟨eq_encodeWord_of_decodeWord, fun h => h ▸ decodeWord_encodeWord i⟩

/-- Four bytes decode exactly when their word does, and what follows them is left over. -/
theorem decodeBytes_four_eq_ok_iff {b0 b1 b2 b3 : Byte} {bytes rest : List Byte} {i : Instr} :
    decodeBytes (b0 :: b1 :: b2 :: b3 :: bytes) = .ok (i, rest) ↔
      wordOfBytes b0 b1 b2 b3 = encodeWord i ∧ bytes = rest := by
  rw [decodeBytes_four, ← decodeWord_eq_ok_iff]
  cases decodeWord (wordOfBytes b0 b1 b2 b3) <;> simp

/-- The bytes of a command decode to it, whatever follows them. -/
theorem decodeBytes_encode_append (i : Instr) (rest : List Byte) :
    decodeBytes (encode i ++ rest) = .ok (i, rest) :=
  decodeBytes_four_eq_ok_iff.mpr ⟨wordOfBytes_bytesOfWord (encodeWord i), rfl⟩

/-- Bytes that decode are the bytes of the command and what is left over. -/
theorem eq_encode_append_of_decodeBytes {bytes rest : List Byte} {i : Instr}
    (h : decodeBytes bytes = .ok (i, rest)) : bytes = encode i ++ rest := by
  match bytes, h with
  | b0 :: b1 :: b2 :: b3 :: tail, h =>
    obtain ⟨hw, rfl⟩ := decodeBytes_four_eq_ok_iff.mp h
    rw [encode, ← hw, bytesOfWord_wordOfBytes]
    rfl

/-- Settles O3: on bytes one direction each, on words the decoder's own law. -/
theorem decodeAndEncodeAgree : Obligations.DecodeAndEncodeAgree :=
  ⟨fun i rest _ => decodeBytes_encode_append i rest, fun _ _ _ => eq_encode_append_of_decodeBytes,
    fun _ _ => decodeWord_eq_ok_iff⟩

/-- A table row that holds a command's word is read as that command. -/
theorem decodeTableWord_encodeWord (i : Instr) :
    decodeTableWord 32 (encodeWord i).toNat = some i := by
  have h := decodeBytes_encode_append i []
  rw [List.append_nil] at h
  rw [decodeTableWord, Nat.mod_eq_of_lt (encodeWord i).isLt, BitVec.ofNat_toNat, BitVec.setWidth_eq,
    ← encode, h]

/-- Settles O1: each word is the word of its row's command. -/
theorem tableWordsDecodeToTheirRows : Obligations.TableWordsDecodeToTheirRows :=
  ⟨decodeTableWord_encodeWord .nopRef, decodeTableWord_encodeWord .nopVa,
    decodeTableWord_encodeWord .nopVb, decodeTableWord_encodeWord .palgenRef,
    decodeTableWord_encodeWord .palgenVa, decodeTableWord_encodeWord .palgenVb,
    decodeTableWord_encodeWord .evalRef, decodeTableWord_encodeWord .evalVa,
    decodeTableWord_encodeWord .evalVb, decodeTableWord_encodeWord .wevalRef,
    decodeTableWord_encodeWord .wevalVa, decodeTableWord_encodeWord .wevalVb⟩

end roundTrip

section legal

/-- Only the number of an operation decodes to it, and it does (30_encoding.md R61). -/
theorem opOfField_eq_some_iff {f : BitVec 4} {o : Op} : opOfField f = some o ↔ f = opCode o := by
  refine ⟨opCode_of_opOfField, ?_⟩
  rintro rfl
  cases o <;> rfl

/-- Only the number of a decoder rule decodes to it, and it does (30_encoding.md R62). -/
theorem decoderOfField_eq_some_iff {f : BitVec 2} {d : Decoder} :
    decoderOfField f = some d ↔ f = decoderCode d := by
  refine ⟨decoderCode_of_decoderOfField, ?_⟩
  rintro rfl
  cases d <;> rfl

/-- The operations have the numbers 0 to 3 (30_encoding.md R61). -/
theorem exists_opOfField_iff (f : BitVec 4) : (∃ o, opOfField f = some o) ↔ f.toNat ≤ 3 := by
  rw [← Option.isSome_iff_exists]
  revert f
  decide

/-- The decoder rules have the numbers 0 to 2 (30_encoding.md R62). -/
theorem exists_decoderOfField_iff (f : BitVec 2) : (∃ d, decoderOfField f = some d) ↔ f ≠ 3 := by
  rw [← Option.isSome_iff_exists]
  revert f
  decide

/-- A word decodes to a command exactly when its fields name the operation and the decoder rule and
`rsv` is zero (30_encoding.md R64). -/
theorem decodeWord_eq_ok_iff_fields {w : Word} {i : Instr} : decodeWord w = .ok i ↔
    rsvField w = 0 ∧ decoderOfField (decField w) = some i.dec ∧ opOfField (opField w) = some i.op := by
  refine ⟨decodeWord_ok, ?_⟩
  rintro ⟨hr, hd, ho⟩
  simp [decodeWord, hr, hd, ho]

/-- A word decodes exactly when its three fields are in range (30_encoding.md R64). -/
theorem exists_decodeWord_iff_fields (w : Word) : (∃ i, decodeWord w = .ok i) ↔
    rsvField w = 0 ∧ decField w ≠ 3 ∧ (opField w).toNat ≤ 3 := by
  rw [← exists_decoderOfField_iff, ← exists_opOfField_iff]
  constructor
  · rintro ⟨i, h⟩
    obtain ⟨hr, hd, ho⟩ := decodeWord_ok h
    exact ⟨hr, ⟨_, hd⟩, ⟨_, ho⟩⟩
  · rintro ⟨hr, ⟨d, hd⟩, ⟨o, ho⟩⟩
    exact ⟨commandOf o d, decodeWord_eq_ok_iff_fields.mpr (by simp [hr, hd, ho])⟩

/-- The words the decoder accepts are the legal ones (30_encoding.md R64). -/
theorem exists_decodeWord_iff_legal (w : Word) : (∃ i, decodeWord w = .ok i) ↔ Legal w = true := by
  rw [exists_decodeWord_iff_fields]
  simp [Legal, reservedClear, decoderKnown, opKnown, rsvField, decField, opField, and_assoc]

/-- The twelve commands in the order of their words (30_encoding.md R66). -/
def commandsByWord : List Instr :=
  [.nopRef, .palgenRef, .evalRef, .wevalRef, .nopVa, .palgenVa, .evalVa, .wevalVa,
    .nopVb, .palgenVb, .evalVb, .wevalVb]

/-- No command is missing from the list. -/
theorem mem_commandsByWord (i : Instr) : i ∈ commandsByWord := by
  cases i <;> decide

/-- A word decodes exactly when it is one of the twelve commands' words (30_encoding.md R64). -/
theorem exists_decodeWord_iff_mem (w : Word) : (∃ i, decodeWord w = .ok i) ↔
    w ∈ commandsByWord.map encodeWord := by
  rw [List.mem_map]
  exact exists_congr fun i => by
    rw [decodeWord_eq_ok_iff, and_iff_right (mem_commandsByWord i), eq_comm]

/-- Settles O2: the listed words are the twelve commands' words in their order, and `dec` = 3 is no
decoder rule. -/
theorem legalWordsAreExactlyTwelve : Obligations.LegalWordsAreExactlyTwelve :=
  ⟨fun w => ⟨exists_decodeWord_iff_fields w, exists_decodeWord_iff_mem w⟩,
    decodeWord_encodeWord .nopVa, decodeWord_encodeWord .nopVb,
    fun h => ((exists_decodeWord_iff_fields 0x30).mp h).2.1 rfl⟩

end legal

section mask

/-- The mask 0xFFFFFFCF keeps `rsv` and `op` and clears `dec` (30_encoding.md R60, R66). -/
theorem and_mask_eq_append (w : Word) :
    w &&& 0xFFFFFFCF#32 = rsvField w ++ 0#2 ++ opField w := by
  calc w &&& 0xFFFFFFCF#32
      = (rsvField w ++ decField w ++ opField w) &&&
          (BitVec.allOnes 26 ++ 0#2 ++ BitVec.allOnes 4) := by rw [fields_append]; rfl
    _ = rsvField w ++ 0#2 ++ opField w := by
      rw [BitVec.and_append, BitVec.and_append, BitVec.and_allOnes, BitVec.and_zero,
        BitVec.and_allOnes]

/-- Under the mask 0xFFFFFFCF a word is an operation's number exactly when `rsv` is zero and `op` is
that number (30_encoding.md R66). -/
theorem and_mask_eq_iff (w : Word) (f : BitVec 4) :
    w &&& 0xFFFFFFCF#32 = 0#26 ++ 0#2 ++ f ↔ rsvField w = 0 ∧ opField w = f := by
  rw [and_mask_eq_append]
  constructor
  · intro h
    have hop : opField w = f := by
      simpa only [BitVec.extractLsb'_append_eq_right] using congrArg (BitVec.extractLsb' 0 4) h
    rw [hop, BitVec.append_left_inj, BitVec.append_left_inj] at h
    exact ⟨h, hop⟩
  · rintro ⟨hr, rfl⟩
    rw [hr]
    rfl

/-- A word decodes to an operation under some decoder exactly when `rsv` is zero, `op` is its number
and `dec` is not 3 (30_encoding.md R64, R66). -/
theorem exists_decodeWord_commandOf_iff (w : Word) (o : Op) :
    (∃ d, decodeWord w = .ok (commandOf o d)) ↔
      (rsvField w = 0 ∧ opField w = opCode o) ∧ decField w ≠ 3 := by
  simp only [decodeWord_eq_ok_iff_fields, commandOf_dec, commandOf_op, opOfField_eq_some_iff,
    ← exists_decoderOfField_iff]
  tauto

/-- Settles O4: match and mask of a row are its whole word; those of an operation are `rsv` and `op`. -/
theorem commandWordMatchesItsMask : Obligations.CommandWordMatchesItsMask := by
  intro w o opNumber
  have hop : opNumber = 0#26 ++ 0#2 ++ opCode o := by cases o <;> rfl
  refine ⟨?_, ?_⟩
  · intro d decBits
    have hdec : decBits = 0#26 ++ decoderCode d ++ 0#4 := by cases d <;> rfl
    have hmatch : opNumber ||| decBits = encodeWord (commandOf o d) := by
      rw [hop, hdec, BitVec.or_append, BitVec.or_append, BitVec.or_zero, BitVec.zero_or,
        BitVec.or_zero, encodeWord, commandOf_dec, commandOf_op]
      rfl
    have hmask : w &&& 0xFFFFFFFF#32 = w := BitVec.and_allOnes
    rw [hmatch, hmask, decodeWord_eq_ok_iff]
  · rw [hop, and_mask_eq_iff]
    exact exists_decodeWord_commandOf_iff w o

end mask

section commandWrite

/-- Settles O5: the bytes are those of the command's word. -/
theorem stepRunsTheDecodedCommand : Obligations.StepRunsTheDecodedCommand := by
  intro s rest bytes i hp hd
  have hb : bytes = encode i := by simpa using eq_encode_append_of_decodeBytes hd
  subst hb
  exact step_command hp

/-- A step that writes an illegal word to `CMD` sets `ILL` and nothing else (30_encoding.md R65,
60_exceptions.md R161). -/
theorem step_illegalWord {s : State} {rest : List HostEvent} {w : Word}
    (hp : s.pending = writeAt s.params 0x08 w :: rest) (hw : Legal w = false) :
    step s = .next (withIll rest s) := by
  rw [step_writeAt_cmd hp, execute]
  cases hd : decodeWord w with
  | error e => rfl
  | ok i => simp [(exists_decodeWord_iff_legal w).mp ⟨i, hd⟩] at hw

/-- Settles O6: an illegal word decodes to nothing; a legal one decodes to the command that its fields
name, whose operation says what the step is. -/
theorem commandWriteExecutesByItsFields : Obligations.CommandWriteExecutesByItsFields := by
  intro s rest w hp
  refine ⟨step_illegalWord hp, fun d hw hdec => ?_⟩
  obtain ⟨i, hi⟩ := (exists_decodeWord_iff_legal w).mpr hw
  obtain ⟨-, hid, hio⟩ := decodeWord_ok hi
  have hstep : step s = exec i (accept rest s) := step_command (eq_encodeWord_of_decodeWord hi ▸ hp)
  have hop (o : Op) (h : opField w = opCode o) : i.op = o :=
    Option.some.inj (hio.symm.trans (opOfField_eq_some_iff.mpr h))
  obtain rfl : i.dec = d := Option.some.inj (hid.symm.trans (decoderOfField_eq_some_iff.mpr hdec))
  exact ⟨fun h => hstep.trans (exec_of_nop _ (hop .nop h)),
    fun h => hstep.trans (exec_of_palgen _ (hop .palgen h)),
    fun h => hstep.trans (exec_of_eval _ (hop .eval h)),
    fun h => hstep.trans (exec_of_weval _ (hop .weval h))⟩

end commandWrite

end Sys2Proof.Proofs
end

section
/-! A run of register writes, and the host sequence of `evaluate_error` (30_encoding.md R70). -/

open Sys2Proof Sys2Proof.Machine Sys2Proof.Claims

namespace Sys2Proof.Proofs

section registerWrites

/-- The unit after a sequence of register writes. -/
def writeAll (writes : List (WindowReg × Word)) (s : State) : State :=
  writes.foldl (fun t q => writeReg q.1 q.2 t) s

/-- The inputs by which a host makes these writes (20_memory.md R41). -/
def writeEvents (p : Params) (writes : List (WindowReg × Word)) : List HostEvent :=
  writes.map fun q => writeAt p q.1.offset q.2

/-- The first of some register writes comes first. -/
theorem writeAll_cons (q : WindowReg × Word) (writes : List (WindowReg × Word)) (s : State) :
    writeAll (q :: writes) s = writeAll writes (writeReg q.1 q.2 s) := rfl

/-- A register write and taking an input off the stream concern different fields. -/
theorem writeReg_accept (r : WindowReg) (v : Word) (rest : List HostEvent) (s : State) :
    writeReg r v (accept rest s) = accept rest (writeReg r v s) := by cases r <;> rfl

/-- A run through register writes, begun just after an earlier input was taken. -/
theorem run_accept_writes (writes : List (WindowReg × Word)) (hc : ∀ q ∈ writes, q.1 ≠ .cmd)
    (rest : List HostEvent) (k : Nat) (s : State) :
    Sys2Proof.core.run (writes.length + k) (accept (writeEvents s.params writes ++ rest) s) =
      Sys2Proof.core.run k (accept rest (writeAll writes s)) := by
  induction writes generalizing s with
  | nil => rw [List.length_nil, Nat.zero_add]; rfl
  | cons q writes ih =>
    have hq : step (accept (writeEvents s.params (q :: writes) ++ rest) s) =
        .next (writeReg q.1 q.2 (accept (writeEvents s.params writes ++ rest) s)) :=
      step_writeReg (hc q List.mem_cons_self) rfl
    rw [List.length_cons, Nat.add_right_comm, run_succ hq, writeReg_accept, ← writeReg_params q.1 q.2]
    exact ih (fun x hx => hc x (List.mem_cons_of_mem q hx)) (writeReg q.1 q.2 s)

/-- A run through register writes, at least one, from any state. -/
theorem run_writes {s : State} {q : WindowReg × Word} {writes : List (WindowReg × Word)}
    {rest : List HostEvent} (hp : s.pending = writeEvents s.params (q :: writes) ++ rest)
    (hc : ∀ x ∈ q :: writes, x.1 ≠ .cmd) (k : Nat) :
    Sys2Proof.core.run (writes.length + k + 1) s =
      Sys2Proof.core.run k (accept rest (writeAll (q :: writes) s)) := by
  rw [run_succ (step_writeReg (hc q List.mem_cons_self) hp), writeReg_accept,
    ← writeReg_params q.1 q.2]
  exact run_accept_writes writes (fun x hx => hc x (List.mem_cons_of_mem q hx)) rest k
    (writeReg q.1 q.2 s)

/-- Writes of texels leave each written texel at its word and the rest of the unit as it was
(20_memory.md R45). -/
theorem writeAll_texels (ks : List (Fin 16)) (f : Fin 16 → Word) (s : State) :
    writeAll (ks.map fun k => (.tex k, f k)) s =
      { s with tex := Vector.ofFn fun m => if m ∈ ks then .ofWord (f m) else s.tex[m] } := by
  induction ks generalizing s with
  | nil =>
    have htex : s.tex = Vector.ofFn fun m => s.tex[m] := by simp
    simp only [List.not_mem_nil, if_false, ← htex]
    rfl
  | cons k ks ih =>
    refine (ih (writeReg (.tex k) (f k) s)).trans (congrArg (fun tex => { s with tex := tex }) ?_)
    ext1 m hm
    simp only [Vector.getElem_ofFn, List.mem_cons]
    by_cases hmk : k.val = m
    · subst hmk
      simp [writeReg]
    · have hne : ¬(⟨m, hm⟩ : Fin 16) = k := fun h => hmk (congrArg Fin.val h).symm
      simp [writeReg, hne, Vector.getElem_set_ne _ _ hmk]

end registerWrites

section evaluateError

/-- The register writes of the host sequence of `evaluate_error` (30_encoding.md R70). -/
def evaluateWrites (block : Vector Byte 8) (raw : Vector Byte 64) : List (WindowReg × Word) :=
  (.blkLo, wordOfBytes block[0] block[1] block[2] block[3]) ::
  (.blkHi, wordOfBytes block[4] block[5] block[6] block[7]) ::
  (List.finRange 16).map fun k => (.tex k, (rawTexel raw k).toWord)

/-- The host sequence is its register writes, the command and the read (30_encoding.md R70). -/
theorem evaluateError_eq (p : Params) (block : Vector Byte 8) (raw : Vector Byte 64) (d : Decoder) :
    evaluateError p block raw d = writeEvents p (evaluateWrites block raw) ++
      [writeAt p 0x08 (encodeWord (commandOf .eval d)), readAt p 0x90] := by
  simp only [evaluateError, write_four_bytes, Nat.add_assoc, writeEvents, evaluateWrites,
    List.map_cons, List.map_map, List.cons_append, List.nil_append]
  rfl

/-- The block register after its two writes. -/
def rawBlk (block : Vector Byte 8) : DWord :=
  wordOfBytes block[4] block[5] block[6] block[7] ++ wordOfBytes block[0] block[1] block[2] block[3]

/-- The unit after the writes of `evaluate_error` holds the block and the raw texels. -/
theorem writeAll_evaluateWrites (block : Vector Byte 8) (raw : Vector Byte 64) (s : State) :
    writeAll (evaluateWrites block raw) s =
      { s with blk := rawBlk block, tex := Vector.ofFn (rawTexel raw) } := by
  have hblk : writeReg .blkHi (wordOfBytes block[4] block[5] block[6] block[7])
      (writeReg .blkLo (wordOfBytes block[0] block[1] block[2] block[3]) s) =
        { s with blk := rawBlk block } :=
    congrArg (fun lo : Word =>
        { s with blk := (wordOfBytes block[4] block[5] block[6] block[7] ++ lo : DWord) })
      BitVec.extractLsb'_append_eq_right
  rw [evaluateWrites, writeAll_cons, writeAll_cons, hblk, writeAll_texels]
  simp only [List.mem_finRange, if_true, Rgba.ofWord_toWord]

/-- A 16-bit field as a number, its first byte low (20_memory.md R42). -/
theorem toNat_halfOf (lo hi : Byte) : (halfOf lo hi).toNat = lo.toNat + hi.toNat * 2 ^ 8 :=
  toNat_append_byte hi lo

/-- The endpoints of the block register are the first two pairs of block bytes (20_memory.md R42). -/
theorem blkCol_rawBlk (block : Vector Byte 8) :
    blkCol0 (rawBlk block) = halfOf block[0] block[1] ∧
      blkCol1 (rawBlk block) = halfOf block[2] block[3] := by
  obtain ⟨h0, h1⟩ := toNat_wordOfBytes_halves (wordOfBytes block[4] block[5] block[6] block[7])
    block[0] block[1] block[2] block[3]
  exact ⟨BitVec.eq_of_toNat_eq (h0.trans (toNat_halfOf _ _).symm),
    BitVec.eq_of_toNat_eq (h1.trans (toNat_halfOf _ _).symm)⟩

/-- The indices of the block register are those of the last four block bytes (42_error.md R130). -/
theorem idx_rawBlk (block : Vector Byte 8) (k : Fin 16) : idx (rawBlk block) k = rawIdx block k := by
  have hind : blkIndices (rawBlk block) = wordOfBytes block[4] block[5] block[6] block[7] :=
    BitVec.extractLsb'_append_eq_left
  have hpow : 2 ^ (2 * k.val) = 4 ^ k.val := Nat.pow_mul 2 2 k.val
  simp only [idx, rawIdx, hind, toNat_wordOfBytes, Nat.shiftRight_eq_div_pow, hpow,
    Nat.mul_comm (BitVec.toNat _)]

/-- `SqDist` over integers (42_error.md R131). -/
theorem sqDist_cast (p t : Rgba) : (sqDist p t : ℤ) = Claims.dist p t := by
  simp only [sqDist, Nat.cast_add, sqDiff_cast, Claims.dist]

/-- `SSE` over integers (42_error.md R133). -/
theorem sse_cast (pal : Vector Rgba 4) (blk : DWord) (tex : Vector Rgba 16) :
    (sse pal blk tex : ℤ) = ∑ k : Fin 16, Claims.dist pal[idx blk k] tex[k] := by
  rw [sse, sumTexels_eq_sum, Nat.cast_sum]
  exact Finset.sum_congr rfl fun k _ => sqDist_cast _ _

/-- The unit when the host has sent the block and the texels, and issued nothing of `more` yet. -/
def loaded (block : Vector Byte 8) (raw : Vector Byte 64) (more : List HostEvent) (s : State) : State :=
  accept more { s with blk := rawBlk block, tex := Vector.ofFn (rawTexel raw) }

/-- The eighteen writes of `evaluate_error` load the operands (30_encoding.md R70). -/
theorem run_evaluateWrites {s : State} {block : Vector Byte 8} {raw : Vector Byte 64}
    {more : List HostEvent} (hp : s.pending = writeEvents s.params (evaluateWrites block raw) ++ more)
    (k : Nat) : Sys2Proof.core.run (18 + k) s = Sys2Proof.core.run k (loaded block raw more s) := by
  have hc : ∀ q ∈ evaluateWrites block raw, q.1 ≠ .cmd := by simp [evaluateWrites]
  have hlen : 18 + k = (evaluateWrites block raw).tail.length + k + 1 := by
    simp only [evaluateWrites, List.tail_cons, List.length_cons, List.length_map, List.length_finRange]
    omega
  rw [hlen, loaded, ← writeAll_evaluateWrites]
  exact run_writes hp hc k

/-- What an EVAL of the loaded operands computes (42_error.md R134). -/
theorem sse_loaded (p : Params) (block : Vector Byte 8) (raw : Vector Byte 64) (d : Decoder) :
    (sse (blockPalette p (rawBlk block) d).entries (rawBlk block) (Vector.ofFn (rawTexel raw)) : ℤ) =
      ∑ k : Fin 16, Claims.dist (palette p (halfOf block[0] block[1]) (halfOf block[2] block[3])
        d).entries[rawIdx block k] (rawTexel raw k) := by
  obtain ⟨h0, h1⟩ := blkCol_rawBlk block
  rw [sse_cast, blockPalette, h0, h1]
  refine Finset.sum_congr rfl fun k _ => ?_
  simp only [idx_rawBlk, Fin.getElem_fin, Vector.getElem_ofFn]

/-- An EVAL and a read of `ERR` return what the EVAL computed (20_memory.md R44, 42_error.md R134). -/
theorem run_eval_readErr {s : State} {d : Decoder} {rest : List HostEvent}
    (hp : s.pending = writeAt s.params 0x08 (encodeWord (commandOf .eval d)) ::
      readAt s.params 0x90 :: rest) :
    Sys2Proof.core.run 2 s = .next (answered rest (afterEval d s).err (afterEval d s)) := by
  have hcmd := (step_command hp).trans (exec_of_eval _ (commandOf_op .eval d))
  rw [commandOf_dec] at hcmd
  exact (run_succ hcmd 1).trans (run_succ (step_readAt_register rfl .err rfl) 0)

/-- Settles O60: the writes load the operands, and the read returns the sum of EVAL, which `ERR` holds
exactly. -/
theorem evaluateErrorComputesItsSum : Obligations.EvaluateErrorComputesItsSum := by
  intro s block raw d rest hp
  rw [evaluateError_eq, List.append_assoc] at hp
  have hrun := (run_evaluateWrites hp 2).trans (run_eval_readErr rfl)
  refine ⟨_, _, hrun, rfl, rfl, ?_, rfl, rfl, rfl, rfl, rfl⟩
  rw [← sse_loaded, ← toNat_ofNat_sse]
  rfl

end evaluateError

end Sys2Proof.Proofs
end

section
/-! Unpacking and expanding an endpoint, and the mode that two endpoints give (40_unpack_expand.md). -/

open Sys2Proof Sys2Proof.Machine

namespace Sys2Proof.Proofs

section unpacking

/-- The endpoint whose fields are given: `r5` in bits 15:11, `g6` in 10:5, `b5` in 4:0
(40_unpack_expand.md R80). -/
def pack565 (f : Fields565) : Half := f.r5 ++ f.g6 ++ f.b5

/-- An endpoint is the three slices that unpacking takes of it. -/
theorem pack565_unpack565 (c : Half) : pack565 (unpack565 c) = c := by
  rw [pack565, unpack565, BitVec.extractLsb'_append_extractLsb'_eq_extractLsb' (show 11 = 5 + 6 from rfl),
    BitVec.extractLsb'_append_extractLsb'_eq_extractLsb' (show 5 = 0 + 5 from rfl)]
  exact BitVec.extractLsb'_eq_self

/-- Unpacking finds the fields that were packed. -/
theorem unpack565_pack565 (f : Fields565) : unpack565 (pack565 f) = f := by
  have hr : (pack565 f).extractLsb' 11 5 = f.r5 := by
    rw [pack565, BitVec.append_assoc]
    exact BitVec.extractLsb'_append_eq_left
  have hg : (pack565 f).extractLsb' 5 6 = f.g6 :=
    (BitVec.extractLsb'_append_eq_of_le (by decide)).trans BitVec.extractLsb'_append_eq_right
  have hb : (pack565 f).extractLsb' 0 5 = f.b5 := BitVec.extractLsb'_append_eq_right
  rw [unpack565, hr, hg, hb]

/-- A packed endpoint as a number. -/
theorem toNat_pack565 (f : Fields565) :
    (pack565 f).toNat = f.r5.toNat * 2048 + f.g6.toNat * 32 + f.b5.toNat := by
  rw [pack565, BitVec.toNat_append, BitVec.toNat_append, ← Nat.shiftLeft_add_eq_or_of_lt f.b5.isLt,
    ← Nat.shiftLeft_add_eq_or_of_lt f.g6.isLt]
  simp only [Nat.shiftLeft_eq]
  omega

/-- Settles O15: packing is the inverse of unpacking, and a packed endpoint is the weighted sum. -/
theorem endpointUnpacksIntoItsFields : Obligations.EndpointUnpacksIntoItsFields :=
  ⟨fun c => by rw [← toNat_pack565, pack565_unpack565],
    Function.bijective_iff_has_inverse.mpr ⟨pack565, pack565_unpack565, unpack565_pack565⟩⟩

end unpacking

section expansion

/-- The channel that holds a `w`-bit field at its top, the field shifted right by `r` below it, is that
shift and or of the field's number: the left shift drops no bit. -/
theorem toNat_shiftLeft_or_shiftRight {w l : Nat} (c : BitVec w) (r : Nat) (h : w + l = 8) :
    (c.setWidth 8 <<< l ||| c.setWidth 8 >>> r).toNat = c.toNat <<< l ||| c.toNat >>> r := by
  have hfit : c.toNat <<< l < 2 ^ 8 := by
    rw [← h, Nat.pow_add, Nat.shiftLeft_eq]
    exact Nat.mul_lt_mul_of_pos_right c.isLt (Nat.two_pow_pos l)
  rw [BitVec.toNat_or, BitVec.toNat_shiftLeft, BitVec.toNat_ushiftRight,
    BitVec.toNat_setWidth_of_le (by omega), Nat.mod_eq_of_lt hfit]

/-- The two operands of the or have no bit in common when the right shift leaves at most `l` bits. -/
theorem shiftLeft_or_shiftRight_eq_add {w l r : Nat} (c : BitVec w) (h : w ≤ l + r) :
    c.toNat <<< l ||| c.toNat >>> r = 2 ^ l * c.toNat + c.toNat / 2 ^ r := by
  have hlow : c.toNat >>> r < 2 ^ l := by
    rw [Nat.shiftRight_eq_div_pow, Nat.div_lt_iff_lt_mul (Nat.two_pow_pos r), ← Nat.pow_add]
    exact c.isLt.trans_le (Nat.pow_le_pow_right (by decide) h)
  rw [← Nat.shiftLeft_add_eq_or_of_lt hlow, Nat.shiftLeft_eq, Nat.mul_comm, Nat.shiftRight_eq_div_pow]

/-- `Expand5` as a number, by shift and or (40_unpack_expand.md R81). -/
theorem toNat_expand5_or (c : BitVec 5) : (expand5 c).toNat = c.toNat <<< 3 ||| c.toNat >>> 2 :=
  toNat_shiftLeft_or_shiftRight c 2 rfl

/-- `Expand6` as a number, by shift and or (40_unpack_expand.md R82). -/
theorem toNat_expand6_or (c : BitVec 6) : (expand6 c).toNat = c.toNat <<< 2 ||| c.toNat >>> 4 :=
  toNat_shiftLeft_or_shiftRight c 4 rfl

/-- `Expand5` as a number, by the sum (40_unpack_expand.md R81). -/
theorem toNat_expand5 (c : BitVec 5) : (expand5 c).toNat = 8 * c.toNat + c.toNat / 4 :=
  (toNat_expand5_or c).trans (shiftLeft_or_shiftRight_eq_add c (by decide))

/-- `Expand6` as a number, by the sum (40_unpack_expand.md R82). -/
theorem toNat_expand6 (c : BitVec 6) : (expand6 c).toNat = 4 * c.toNat + c.toNat / 16 :=
  (toNat_expand6_or c).trans (shiftLeft_or_shiftRight_eq_add c (by decide))

/-- Settles O16: both forms by the two general lemmas, the end points by evaluation. -/
theorem expansionsReplicateHighBits : Obligations.ExpansionsReplicateHighBits :=
  ⟨fun c => ⟨toNat_expand5_or c, toNat_expand5 c⟩, fun c => ⟨toNat_expand6_or c, toNat_expand6 c⟩,
    by decide, by decide, by decide, by decide⟩

/-- A larger field expands to a larger channel (40_unpack_expand.md R83 (a)). -/
theorem expand5_lt_expand5 {a b : BitVec 5} (h : a.toNat < b.toNat) :
    (expand5 a).toNat < (expand5 b).toNat := by
  rw [toNat_expand5, toNat_expand5]
  omega

/-- A larger field expands to a larger channel (40_unpack_expand.md R83 (a)). -/
theorem expand6_lt_expand6 {a b : BitVec 6} (h : a.toNat < b.toNat) :
    (expand6 a).toNat < (expand6 b).toNat := by
  rw [toNat_expand6, toNat_expand6]
  omega

/-- A map of words that keeps strict order is injective. -/
theorem injective_of_toNat_lt {v w : Nat} {f : BitVec v → BitVec w}
    (h : ∀ {a b : BitVec v}, a.toNat < b.toNat → (f a).toNat < (f b).toNat) : Function.Injective f := by
  intro a b hab
  have heq : (f a).toNat = (f b).toNat := congrArg BitVec.toNat hab
  obtain hlt | hnat | hlt := Nat.lt_trichotomy a.toNat b.toNat
  · exact absurd heq (h hlt).ne
  · exact BitVec.eq_of_toNat_eq hnat
  · exact absurd heq (h hlt).ne'

/-- Settles O17: strict growth and the closed forms are read off the sums. -/
theorem expansionsAreStrictlyIncreasing : Obligations.ExpansionsAreStrictlyIncreasing := by
  refine ⟨fun _ _ => expand5_lt_expand5, fun _ _ => expand6_lt_expand6,
    injective_of_toNat_lt expand5_lt_expand5, injective_of_toNat_lt expand6_lt_expand6, by decide,
    fun c => ?_, fun c => ?_⟩
  · rw [toNat_expand5]
    omega
  · rw [toNat_expand6]
    omega

end expansion

section colour

/-- A colour's word as a number, by shift and or (10_state.md R12, R15). -/
theorem toNat_toWord (c : Rgba) : c.toWord.toNat =
    c.a.toNat <<< 24 ||| c.b.toNat <<< 16 ||| c.g.toNat <<< 8 ||| c.r.toNat := by
  simp only [Rgba.toWord, BitVec.toNat_append, Nat.shiftLeft_or_distrib, ← Nat.shiftLeft_add]

/-- Settles O18: the alpha of an expanded endpoint is 255, the word's top byte. -/
theorem endpointExpandsToAnOpaqueColour : Obligations.EndpointExpandsToAnOpaqueColour := by
  intro c
  have hopaque : (expand565 c).a = 255 := rfl
  have htop : (255 : Byte).toNat <<< 24 = 0xFF000000 := by decide
  exact ⟨rfl, by rw [toNat_toWord, hopaque, htop]⟩

end colour

section mode

/-- Settles O19: every palette-making command writes the mode of its block's palette, the comparison of
the two packed endpoints. -/
theorem modeFlagComparesPackedEndpoints : Obligations.ModeFlagComparesPackedEndpoints := by
  intro i s hop
  obtain ⟨t, ht, -, hmode, -⟩ := exec_results s hop
  refine ⟨t, ht, ?_⟩
  rw [hmode, blockPalette, palette_mode4]
  exact mode4_iff (blkCol0 s.blk) (blkCol1 s.blk)

end mode

end Sys2Proof.Proofs
end

section
/-! The numbers behind the palette formulas (41_palette.md R102 to R108, R113), their mirror images, and
that they lie between the endpoints (R114). -/

open Sys2Proof Sys2Proof.Machine Sys2Proof.Claims

namespace Sys2Proof.Proofs

section betweenness

theorem between_comm {a b x : Byte} : Between a b x ↔ Between b a x := by
  simp only [Between, Nat.min_comm, Nat.max_comm]

/-- Only the channel itself lies between a channel and itself. -/
theorem eq_of_between_self {a x : Byte} (h : Between a a x) : x = a := by
  obtain ⟨hlo, hhi⟩ := h
  rw [min_self] at hlo
  rw [max_self] at hhi
  exact BitVec.eq_of_toNat_eq (hhi.antisymm hlo)

/-- A formula that stays between its two channels gives a colour between two colours. -/
theorem rgbBetween_perChannel {f : Byte → Byte → Byte} (hf : ∀ a b, Between a b (f a b))
    (p q : Rgba) : RgbBetween p q (perChannel f p q) :=
  ⟨hf _ _, hf _ _, hf _ _⟩

end betweenness

section expandedFormulas

/-- A number below 256 is kept by the narrowing to a channel (00_scope.md R6). -/
theorem toNat_ofNat_byte {n : Nat} (h : n ≤ 255) : (BitVec.ofNat 8 n).toNat = n :=
  (BitVec.toNat_ofNat n 8).trans (Nat.mod_eq_of_lt (by omega))

/-- An integer in 0..255 is kept by the narrowing to a channel (00_scope.md R6). -/
theorem toNat_ofInt_byte {z : ℤ} (h0 : 0 ≤ z) (h1 : z ≤ 255) :
    ((BitVec.ofInt 8 z).toNat : ℤ) = z := by
  rw [BitVec.toNat_ofInt]
  omega

theorem toNat_ref4Entry2 (a b : Byte) : (ref4Entry2 a b).toNat = (2 * a.toNat + b.toNat) / 3 :=
  toNat_ofNat_byte (by omega)

theorem ref4Entry3_eq_swap (a b : Byte) : ref4Entry3 a b = ref4Entry2 b a := by
  rw [ref4Entry3, ref4Entry2, Nat.add_comm]

theorem toNat_ref3Entry2 (a b : Byte) : (ref3Entry2 a b).toNat = (a.toNat + b.toNat) / 2 :=
  toNat_ofNat_byte (by omega)

theorem toNat_vb3Entry2 (a b : Byte) : (vb3Entry2 a b).toNat = (a.toNat + b.toNat + 1) / 2 :=
  toNat_ofNat_byte (by omega)

/-- The low 8 bits of the quotient, whatever the divisor (41_palette.md R104). -/
theorem toNat_vb4Entry2 (div : Divisor) (a b : Byte) :
    (vb4Entry2 div a b).toNat = (43 * a.toNat + 21 * b.toNat + 32) / div.val % 256 :=
  BitVec.toNat_ofNat _ 8

theorem vb4Entry3_eq_swap (div : Divisor) (a b : Byte) : vb4Entry3 div a b = vb4Entry2 div b a := rfl

theorem ref4Entry2_between (a b : Byte) : Between a b (ref4Entry2 a b) := by
  rw [Between, toNat_ref4Entry2]
  omega

theorem ref4Entry3_between (a b : Byte) : Between a b (ref4Entry3 a b) := by
  rw [ref4Entry3_eq_swap, between_comm]
  exact ref4Entry2_between b a

theorem ref3Entry2_between (a b : Byte) : Between a b (ref3Entry2 a b) := by
  rw [Between, toNat_ref3Entry2]
  omega

theorem vb3Entry2_between (a b : Byte) : Between a b (vb3Entry2 a b) := by
  rw [Between, toNat_vb3Entry2]
  omega

/-- With the divisor 64, the sum of the two coefficients, no bit of the quotient is cut off. -/
theorem vb4Entry2_between {div : Divisor} (h : div.val = 64) (a b : Byte) :
    Between a b (vb4Entry2 div a b) := by
  rw [Between, toNat_vb4Entry2, h, Nat.mod_eq_of_lt (by omega)]
  omega

theorem vb4Entry3_between {div : Divisor} (h : div.val = 64) (a b : Byte) :
    Between a b (vb4Entry3 div a b) :=
  between_comm.mp (vb4Entry2_between h b a)

end expandedFormulas

section rawFormulas

theorem toNat_va4Entry2RB (x y : BitVec 5) :
    (va4Entry2RB x y).toNat = (2 * x.toNat + y.toNat) * 22 / 8 :=
  toNat_ofNat_byte (by omega)

theorem va4Entry3RB_eq_swap (x y : BitVec 5) : va4Entry3RB x y = va4Entry2RB y x := rfl

theorem toNat_va3Entry2RB (x y : BitVec 5) : (va3Entry2RB x y).toNat = (x.toNat + y.toNat) * 33 / 8 :=
  toNat_ofNat_byte (by omega)

/-- On equal fields the formula is `66 * x / 8`, the expansion of `x`; between them it is monotone. -/
theorem va4Entry2RB_between (x y : BitVec 5) : Between (expand5 x) (expand5 y) (va4Entry2RB x y) := by
  rw [Between, toNat_va4Entry2RB, toNat_expand5, toNat_expand5]
  omega

theorem va4Entry3RB_between (x y : BitVec 5) : Between (expand5 x) (expand5 y) (va4Entry3RB x y) :=
  between_comm.mp (va4Entry2RB_between y x)

theorem va3Entry2RB_between (x y : BitVec 5) : Between (expand5 x) (expand5 y) (va3Entry2RB x y) := by
  rw [Between, toNat_va3Entry2RB, toNat_expand5, toNat_expand5]
  omega

end rawFormulas

section green

/-- The outer dividend of the Vendor A greens; the coefficient is 80 in R107 and `VA_G3_COEF` in R108. -/
def greenDividend (coef : Nat) (g0 g1 : Byte) : ℤ :=
  256 * (g0.toNat : ℤ) + (gdiff g0 g1).tdiv 4 + 128 + coef * gdiff g0 g1

theorem va3Quotient_eq (coef : Nat) (g0 g1 : Byte) :
    va3Quotient coef g0 g1 = (greenDividend coef g0 g1).tdiv 256 := rfl

/-- The 4-color green has the form of the 3-color quotient, with the coefficient 80. -/
theorem va4Entry2G_eq (g0 g1 : Byte) : va4Entry2G g0 g1 = BitVec.ofInt 8 (va3Quotient 80 g0 g1) := rfl

theorem gdiff_swap (g0 g1 : Byte) : gdiff g1 g0 = -gdiff g0 g1 := (Int.neg_sub _ _).symm

/-- Exchanging the greens turns `gdiff` into its negative, and truncation toward zero commutes with that
(41_palette.md R114 (b)). -/
theorem greenDividend_swap (coef : Nat) (g0 g1 : Byte) : greenDividend coef g1 g0 =
    256 * (g1.toNat : ℤ) - (gdiff g0 g1).tdiv 4 + 128 - coef * gdiff g0 g1 := by
  rw [greenDividend, gdiff_swap, Int.neg_tdiv]
  ring

theorem va4Entry3G_eq_swap (g0 g1 : Byte) : va4Entry3G g0 g1 = va4Entry2G g1 g0 := by
  rw [va4Entry2G_eq, va3Quotient_eq, greenDividend_swap]
  rfl

/-- A coefficient up to 128 keeps the dividend within 128 above 256 times the endpoints: for greens in
0..255 these are the bounds of 41_palette.md R113. -/
theorem greenDividend_bounds {coef : Nat} (h : coef ≤ 128) (g0 g1 : Byte) :
    256 * min (g0.toNat : ℤ) g1.toNat + 128 ≤ greenDividend coef g0 g1 ∧
    greenDividend coef g0 g1 ≤ 256 * max (g0.toNat : ℤ) g1.toNat + 128 := by
  have hcoef : (coef : ℤ) ≤ 128 := by exact_mod_cast h
  rw [greenDividend]
  obtain hd | hd := le_total 0 (gdiff g0 g1)
  · have hlo : 0 ≤ coef * gdiff g0 g1 := mul_nonneg (Int.natCast_nonneg coef) hd
    have hhi : coef * gdiff g0 g1 ≤ 128 * gdiff g0 g1 := mul_le_mul_of_nonneg_right hcoef hd
    rw [Int.tdiv_eq_ediv_of_nonneg hd]
    generalize (coef : ℤ) * gdiff g0 g1 = m at *
    simp only [gdiff] at *
    omega
  · have hhi : coef * gdiff g0 g1 ≤ 0 := mul_nonpos_of_nonneg_of_nonpos (Int.natCast_nonneg coef) hd
    have hlo : 128 * gdiff g0 g1 ≤ coef * gdiff g0 g1 := mul_le_mul_of_nonpos_right hcoef hd
    rw [← Int.neg_neg (gdiff g0 g1), Int.neg_tdiv, Int.tdiv_eq_ediv_of_nonneg (Int.neg_nonneg.mpr hd),
      Int.neg_neg]
    generalize (coef : ℤ) * gdiff g0 g1 = m at *
    simp only [gdiff] at *
    omega

theorem le_greenDividend {coef : Nat} (h : coef ≤ 128) (g0 g1 : Byte) :
    128 ≤ greenDividend coef g0 g1 := by
  obtain ⟨hlo, -⟩ := greenDividend_bounds h g0 g1
  omega

/-- The dividend is positive, so the outer division has only one reading. -/
theorem va3Quotient_eq_ediv {coef : Nat} (h : coef ≤ 128) (g0 g1 : Byte) :
    va3Quotient coef g0 g1 = greenDividend coef g0 g1 / 256 :=
  Int.tdiv_eq_ediv_of_nonneg (Int.le_trans (by decide) (le_greenDividend h g0 g1))

theorem va3Quotient_bounds {coef : Nat} (h : coef ≤ 128) (g0 g1 : Byte) :
    min (g0.toNat : ℤ) g1.toNat ≤ va3Quotient coef g0 g1 ∧
    va3Quotient coef g0 g1 ≤ max (g0.toNat : ℤ) g1.toNat := by
  obtain ⟨hlo, hhi⟩ := greenDividend_bounds h g0 g1
  rw [va3Quotient_eq_ediv h]
  omega

/-- The quotient is a u8 for every coefficient up to the default one (41_palette.md R113). -/
theorem va3Quotient_u8 {coef : Nat} (h : coef ≤ 128) (g0 g1 : Byte) :
    0 ≤ va3Quotient coef g0 g1 ∧ va3Quotient coef g0 g1 ≤ 255 := by
  obtain ⟨hlo, hhi⟩ := va3Quotient_bounds h g0 g1
  omega

theorem toNat_va4Entry2G (g0 g1 : Byte) :
    ((va4Entry2G g0 g1).toNat : ℤ) = greenDividend 80 g0 g1 / 256 := by
  have h80 : 80 ≤ 128 := by decide
  obtain ⟨h0, h1⟩ := va3Quotient_u8 h80 g0 g1
  rw [va4Entry2G_eq, toNat_ofInt_byte h0 h1, va3Quotient_eq_ediv h80]

theorem toNat_va3Entry2G {coef : Nat} {g0 g1 : Byte}
    (h : 0 ≤ va3Quotient coef g0 g1 ∧ va3Quotient coef g0 g1 ≤ 255) :
    ((va3Entry2G coef g0 g1).toNat : ℤ) = va3Quotient coef g0 g1 := by
  rw [va3Entry2G, if_pos h, toNat_ofInt_byte h.1 h.2]

theorem va4Entry2G_between (g0 g1 : Byte) : Between g0 g1 (va4Entry2G g0 g1) := by
  have h80 : 80 ≤ 128 := by decide
  have hq := va3Quotient_bounds h80 g0 g1
  rw [va3Quotient_eq_ediv h80, ← toNat_va4Entry2G] at hq
  exact_mod_cast hq

theorem va4Entry3G_between (g0 g1 : Byte) : Between g0 g1 (va4Entry3G g0 g1) := by
  rw [va4Entry3G_eq_swap, between_comm]
  exact va4Entry2G_between g1 g0

theorem va3Entry2G_between {coef : Nat} (h : coef ≤ 128) (g0 g1 : Byte) :
    Between g0 g1 (va3Entry2G coef g0 g1) := by
  have hq := va3Quotient_bounds h g0 g1
  rw [← toNat_va3Entry2G (va3Quotient_u8 h g0 g1)] at hq
  exact_mod_cast hq

/-- On equal greens `gdiff` is 0, so the coefficient does not matter. -/
theorem va3Entry2G_self (coef : Nat) (g : Byte) : va3Entry2G coef g g = g := by
  have hq : va3Quotient coef g g = g.toNat := by
    rw [va3Quotient, gdiff, Int.sub_self]
    simp only [Int.zero_tdiv, mul_zero]
    rw [Int.tdiv_eq_ediv_of_nonneg (by omega)]
    omega
  have hg := toNat_va3Entry2G (coef := coef) (g0 := g) (g1 := g) (by omega)
  exact BitVec.eq_of_toNat_eq (by exact_mod_cast hg.trans hq)

end green

end Sys2Proof.Proofs
end

section
/-! What a palette-making command leaves in `PAL`, entry by entry, and the statements about it
(41_palette.md R100 to R114). -/

open Sys2Proof Sys2Proof.Machine Sys2Proof.Claims

namespace Sys2Proof.Proofs

section entries

variable (p : Params) {c0 c1 : Half} (d : Decoder)

theorem palette_entry0 : (palette p c0 c1 d).entries[0] = expand565 c0 := by
  unfold palette
  split <;> rfl

theorem palette_entry1 : (palette p c0 c1 d).entries[1] = expand565 c1 := by
  unfold palette
  split <;> rfl

theorem palette_entry2_of_mode4 (h : mode4 c0 c1 = true) :
    (palette p c0 c1 d).entries[2] = opaqueEntry (entries4 p c0 c1 d).1 := by
  rw [palette_of_mode4 p d h]
  rfl

theorem palette_entry3_of_mode4 (h : mode4 c0 c1 = true) :
    (palette p c0 c1 d).entries[3] = opaqueEntry (entries4 p c0 c1 d).2 := by
  rw [palette_of_mode4 p d h]
  rfl

theorem palette_entry2_of_mode3 (h : mode4 c0 c1 = false) :
    (palette p c0 c1 d).entries[2] = opaqueEntry (entry3 p c0 c1 d) := by
  rw [palette_of_mode3 p d h]
  rfl

theorem palette_entry3_of_mode3 (h : mode4 c0 c1 = false) :
    (palette p c0 c1 d).entries[3] = ⟨0, 0, 0, 0⟩ := by
  rw [palette_of_mode3 p d h]
  rfl

theorem palette_entry2_alpha : (palette p c0 c1 d).entries[2].a = 255 := by
  unfold palette
  split <;> rfl

/-- Vendor A's default entries 2 and 3 in 4-color mode (41_palette.md R106, R107). -/
theorem entries4_vendorA {p : Params} (hp : p.paletteVA = .reconstruction) (c0 c1 : Half) :
    entries4 p c0 c1 .vendorA =
      (⟨va4Entry2RB (unpack565 c0).r5 (unpack565 c1).r5, va4Entry2G (expand565 c0).g (expand565 c1).g,
        va4Entry2RB (unpack565 c0).b5 (unpack565 c1).b5⟩,
       ⟨va4Entry3RB (unpack565 c0).r5 (unpack565 c1).r5, va4Entry3G (expand565 c0).g (expand565 c1).g,
        va4Entry3RB (unpack565 c0).b5 (unpack565 c1).b5⟩) := by
  simp only [entries4, va4Entries, hp]

/-- Vendor A's default entry 2 in 3-color mode (41_palette.md R108). -/
theorem entry3_vendorA {p : Params} (hp : p.paletteVA = .reconstruction) (c0 c1 : Half) :
    entry3 p c0 c1 .vendorA =
      ⟨va3Entry2RB (unpack565 c0).r5 (unpack565 c1).r5,
        va3Entry2G p.vaG3Coef (expand565 c0).g (expand565 c1).g,
        va3Entry2RB (unpack565 c0).b5 (unpack565 c1).b5⟩ := by
  simp only [entry3, va3Entry, hp]

end entries

section betweenEndpoints

/-- In 3-color mode entry 2 lies between the endpoints under every decoder, once Vendor A's green does. -/
theorem entry3_between {p : Params} {c0 c1 : Half} {d : Decoder}
    (hva : d = .vendorA → p.paletteVA = .reconstruction ∧ Between (expand565 c0).g (expand565 c1).g
      (va3Entry2G p.vaG3Coef (expand565 c0).g (expand565 c1).g)) :
    RgbBetween (expand565 c0) (expand565 c1) (entry3 p c0 c1 d) := by
  cases d with
  | reference => exact rgbBetween_perChannel ref3Entry2_between _ _
  | vendorA =>
    obtain ⟨hp, hg⟩ := hva rfl
    rw [entry3_vendorA hp]
    exact ⟨va3Entry2RB_between _ _, hg, va3Entry2RB_between _ _⟩
  | vendorB => exact rgbBetween_perChannel vb3Entry2_between _ _

/-- In 4-color mode entries 2 and 3 lie between the endpoints, for Vendor B with the divisor 64. -/
theorem entries4_between {p : Params} {c0 c1 : Half} {d : Decoder}
    (hva : d = .vendorA → p.paletteVA = .reconstruction) (hvb : d = .vendorB → p.vbDiv.val = 64) :
    RgbBetween (expand565 c0) (expand565 c1) (entries4 p c0 c1 d).1 ∧
    RgbBetween (expand565 c0) (expand565 c1) (entries4 p c0 c1 d).2 := by
  cases d with
  | reference =>
    exact ⟨rgbBetween_perChannel ref4Entry2_between _ _, rgbBetween_perChannel ref4Entry3_between _ _⟩
  | vendorA =>
    rw [entries4_vendorA (hva rfl)]
    exact ⟨⟨va4Entry2RB_between _ _, va4Entry2G_between _ _, va4Entry2RB_between _ _⟩,
      ⟨va4Entry3RB_between _ _, va4Entry3G_between _ _, va4Entry3RB_between _ _⟩⟩
  | vendorB =>
    exact ⟨rgbBetween_perChannel (vb4Entry2_between (hvb rfl)) _ _,
      rgbBetween_perChannel (vb4Entry3_between (hvb rfl)) _ _⟩

/-- Equal endpoints leave only one colour between them (41_palette.md R114 (a)). -/
theorem entry3_of_eq_endpoints {p : Params} {c0 c1 : Half} {d : Decoder}
    (hva : d = .vendorA → p.paletteVA = .reconstruction) (h : c0 = c1) :
    opaqueEntry (entry3 p c0 c1 d) = expand565 c0 := by
  subst h
  have hg : Between (expand565 c0).g (expand565 c0).g
      (va3Entry2G p.vaG3Coef (expand565 c0).g (expand565 c0).g) := by
    rw [va3Entry2G_self, Between, min_self, max_self]
    exact ⟨le_rfl, le_rfl⟩
  obtain ⟨hr, hg, hb⟩ := entry3_between (c0 := c0) (c1 := c0) (d := d) fun hd => ⟨hva hd, hg⟩
  rw [opaqueEntry, eq_of_between_self hr, eq_of_between_self hg, eq_of_between_self hb]
  rfl

/-- Exchanging the endpoints exchanges entries 2 and 3 (41_palette.md R114 (b)). -/
theorem entries4_swap {p : Params} {d : Decoder} (c0 c1 : Half)
    (hva : d = .vendorA → p.paletteVA = .reconstruction) :
    entries4 p c1 c0 d = ((entries4 p c0 c1 d).2, (entries4 p c0 c1 d).1) := by
  cases d with
  | reference => simp only [entries4, perChannel, ref4Entry3_eq_swap]
  | vendorA => simp only [entries4_vendorA (hva rfl), va4Entry3RB_eq_swap, va4Entry3G_eq_swap]
  | vendorB => simp only [entries4, perChannel, vb4Entry3_eq_swap]

/-- Settles O32: (a) and (b) hold of the entries, (c) of each formula; two black endpoints one step apart
show that Vendor B's 4-color entries leave the range at `VB_DIV` = 8. -/
theorem lawsOfThePalette : Obligations.LawsOfThePalette := by
  refine ⟨fun p c d hva => ?_, fun p c0 c1 d hva => entries4_swap c0 c1 hva,
    fun p c0 c1 d hva => ⟨entry3_between fun hd => ?_, entries4_between fun hd => (hva hd).1⟩,
    ⟨Config.defaults, 0x0001, 0x0000, rfl, rfl, ?_⟩, fun div hdiv => ?_⟩
  · have hmode : mode4 c c = false := by simp [mode4]
    rw [palette_mode4, palette_entry2_of_mode3 p d hmode, palette_entry0, palette_entry1]
    exact ⟨hmode, entry3_of_eq_endpoints hva rfl, rfl⟩
  · obtain ⟨hp, hcoef⟩ := hva hd
    exact ⟨hp, va3Entry2G_between hcoef.le _ _⟩
  · unfold RgbBetween Between
    decide
  · simp only [vb4Entry3_eq_swap, toNat_vb4Entry2, hdiv]
    decide

end betweenEndpoints

section commands

/-- `FourColor` of a state is `Mode4` of its block's endpoints (40_unpack_expand.md R85). -/
theorem fourColor_iff (s : State) : FourColor s ↔ mode4 (blkCol0 s.blk) (blkCol1 s.blk) = true :=
  (mode4_iff _ _).symm

theorem not_fourColor_iff (s : State) :
    ¬FourColor s ↔ mode4 (blkCol0 s.blk) (blkCol1 s.blk) = false := by
  rw [fourColor_iff, Bool.not_eq_true]

/-- A palette-making command leaves the palette and the mode of its block's endpoints. -/
theorem exec_pal {i : Instr} (s : State) (h : i.op ≠ .nop) :
    ∃ t, exec i s = .next t ∧ t.pal = pal i.dec s ∧ t.status.mode4 = m4 i.dec s := by
  obtain ⟨t, ht, hpal, hmode, -⟩ := exec_results s h
  exact ⟨t, ht, hpal, hmode⟩

/-- The palette-making commands of one decoder. -/
def paletteCommands (d : Decoder) : List Instr :=
  [commandOf .palgen d, commandOf .eval d, commandOf .weval d]

theorem op_and_dec_of_mem {i : Instr} {d : Decoder} (h : i ∈ paletteCommands d) :
    i.op ≠ .nop ∧ i.dec = d := by
  simp only [paletteCommands, List.mem_cons, List.not_mem_nil, or_false] at h
  obtain rfl | rfl | rfl := h <;> simp

theorem exec_pal_of_mem {i : Instr} {d : Decoder} (s : State) (h : i ∈ paletteCommands d) :
    ∃ t, exec i s = .next t ∧ t.pal = pal d s := by
  obtain ⟨hop, rfl⟩ := op_and_dec_of_mem h
  obtain ⟨t, ht, hpal, -⟩ := exec_pal s hop
  exact ⟨t, ht, hpal⟩

/-- Entries 2 and 3 that a command leaves of a 4-color block (41_palette.md R110). -/
theorem exec_fourColor {i : Instr} {d : Decoder} {s : State} (hi : i ∈ paletteCommands d)
    (h : FourColor s) : ∃ t, exec i s = .next t ∧
      t.pal[2] = opaqueEntry (entries4 s.params (blkCol0 s.blk) (blkCol1 s.blk) d).1 ∧
      t.pal[3] = opaqueEntry (entries4 s.params (blkCol0 s.blk) (blkCol1 s.blk) d).2 := by
  obtain ⟨t, ht, hpal⟩ := exec_pal_of_mem s hi
  rw [fourColor_iff] at h
  refine ⟨t, ht, ?_⟩
  rw [hpal]
  exact ⟨palette_entry2_of_mode4 _ d h, palette_entry3_of_mode4 _ d h⟩

/-- Entries 2 and 3 that a command leaves of a 3-color block (41_palette.md R110); with equal endpoints
entry 2 is entries 0 and 1 once more (R114 (a)). -/
theorem exec_threeColor {i : Instr} {d : Decoder} {s : State} (hi : i ∈ paletteCommands d)
    (h : ¬FourColor s) (hva : d = .vendorA → s.params.paletteVA = .reconstruction) :
    ∃ t, exec i s = .next t ∧ t.pal[3] = ⟨0, 0, 0, 0⟩ ∧
      t.pal[2] = opaqueEntry (entry3 s.params (blkCol0 s.blk) (blkCol1 s.blk) d) ∧
      (blkCol0 s.blk = blkCol1 s.blk → t.pal[2] = t.pal[0] ∧ t.pal[2] = t.pal[1]) := by
  obtain ⟨t, ht, hpal⟩ := exec_pal_of_mem s hi
  rw [not_fourColor_iff] at h
  refine ⟨t, ht, ?_⟩
  rw [hpal, pal, palette_entry0, palette_entry1, palette_entry2_of_mode3 _ d h]
  refine ⟨palette_entry3_of_mode3 _ d h, rfl, fun heq => ?_⟩
  rw [← heq]
  exact ⟨entry3_of_eq_endpoints hva rfl, entry3_of_eq_endpoints hva rfl⟩

/-- A channel of a colour made channel by channel is the formula's value on that channel. -/
theorem channel_of_perChannel {c : Rgba → Byte} (hc : c ∈ channels) {f : Byte → Byte → Byte}
    {p q x : Rgba} (h : x = opaqueEntry (perChannel f p q)) : c x = f (c p) (c q) := by
  subst h
  simp only [channels, List.mem_cons, List.not_mem_nil, or_false] at hc
  obtain rfl | rfl | rfl := hc <;> rfl

/-- Settles O12: the words by the round trip, the states by what PALGEN's operation leaves. -/
theorem palgenWritesPaletteAndFlags : Obligations.PalgenWritesPaletteAndFlags :=
  ⟨⟨decodeWord_encodeWord .palgenRef, decodeWord_encodeWord .palgenVa,
      decodeWord_encodeWord .palgenVb⟩,
    fun s => ⟨exec_of_palgen s rfl, exec_of_palgen s rfl, exec_of_palgen s rfl⟩⟩

/-- Settles O20: the two entries are read off the palette in either mode. -/
theorem entriesZeroAndOneAreTheEndpoints : Obligations.EntriesZeroAndOneAreTheEndpoints := by
  intro i s hop
  obtain ⟨t, ht, hpal, hmode⟩ := exec_pal s hop
  refine ⟨t, ht, ?_⟩
  rw [hpal, hmode, fourColor_iff, m4, palette_mode4]
  exact ⟨palette_entry0 _ _, palette_entry1 _ _, Iff.rfl⟩

/-- Settles O21: expanded endpoints and interpolated entries are opaque, and the 3-color entry 3 is
constant. -/
theorem alphaAndTheTransparentEntry : Obligations.AlphaAndTheTransparentEntry := by
  intro i s hop
  obtain ⟨t, ht, hpal, -⟩ := exec_pal s hop
  refine ⟨t, ht, ?_⟩
  rw [hpal, fourColor_iff, Bool.not_eq_true]
  refine ⟨congrArg Rgba.a (palette_entry0 _ _), congrArg Rgba.a (palette_entry1 _ _),
    palette_entry2_alpha _ _, fun h => congrArg Rgba.a (palette_entry3_of_mode4 _ _ h), fun h => ?_⟩
  have h3 : (pal i.dec s)[3] = ⟨0, 0, 0, 0⟩ := palette_entry3_of_mode3 _ _ h
  exact ⟨h3, congrArg Rgba.toWord h3⟩

end commands

section reference

/-- Settles O22: both entries are made channel by channel, and each formula stays between its
endpoints. -/
theorem referenceFourColorEntries : Obligations.ReferenceFourColorEntries := by
  intro i s hi h4
  obtain ⟨t, ht, h2, h3⟩ := exec_fourColor (d := .reference) hi h4
  refine ⟨t, ht, fun c hc => ?_⟩
  have hc2 : c t.pal[2] = ref4Entry2 (c (p0 s)) (c (p1 s)) := channel_of_perChannel hc h2
  have hc3 : c t.pal[3] = ref4Entry3 (c (p0 s)) (c (p1 s)) := channel_of_perChannel hc h3
  rw [hc2, hc3]
  refine ⟨toNat_ref4Entry2 _ _, ?_, ref4Entry2_between _ _, ref4Entry3_between _ _⟩
  rw [ref4Entry3_eq_swap, toNat_ref4Entry2, Nat.add_comm]

/-- Settles O23: entry 2 is made channel by channel, and equal endpoints give it their own value. -/
theorem referenceThreeColorEntries : Obligations.ReferenceThreeColorEntries := by
  intro i s hi h3c
  obtain ⟨t, ht, h3, h2, hself⟩ := exec_threeColor (d := .reference) hi h3c nofun
  refine ⟨t, ht, h3, fun c hc => ?_, hself⟩
  have hc2 : c t.pal[2] = ref3Entry2 (c (p0 s)) (c (p1 s)) := channel_of_perChannel hc h2
  rw [hc2, toNat_ref3Entry2]

end reference

section vendorB

/-- The dividends of R104 are in 32..16352 (41_palette.md R113). -/
theorem vb4_dividend_bounds (a b : Byte) :
    32 ≤ 43 * a.toNat + 21 * b.toNat + 32 ∧ 43 * a.toNat + 21 * b.toNat + 32 ≤ 16352 := by
  omega

/-- Settles O24: entry 3 is the mirror of entry 2, and the ranges follow from those of the dividends. -/
theorem vendorBFourColorEntries : Obligations.VendorBFourColorEntries := by
  intro i s hi h4
  obtain ⟨t, ht, h2, h3⟩ := exec_fourColor (d := .vendorB) hi h4
  refine ⟨t, ht, fun c hc => ?_⟩
  have hc2 : c t.pal[2] = vb4Entry2 s.params.vbDiv (c (p0 s)) (c (p1 s)) := channel_of_perChannel hc h2
  have hc3 : c t.pal[3] = vb4Entry2 s.params.vbDiv (c (p1 s)) (c (p0 s)) := channel_of_perChannel hc h3
  have hd2 := vb4_dividend_bounds (c (p0 s)) (c (p1 s))
  have hd3 := vb4_dividend_bounds (c (p1 s)) (c (p0 s))
  simp only [hc2, hc3, toNat_vb4Entry2]
  refine ⟨trivial, trivial, hd2, hd3, fun _ => by omega, fun h64 => ?_⟩
  rw [h64, Nat.mod_eq_of_lt (by omega), Nat.mod_eq_of_lt (by omega)]
  exact ⟨rfl, rfl⟩

/-- Settles O25: adding 1 before halving adds the parity of the sum to the half. -/
theorem vendorBThreeColorEntries : Obligations.VendorBThreeColorEntries := by
  intro i s hi h3c
  obtain ⟨t, ht, h3, h2, hself⟩ := exec_threeColor (d := .vendorB) hi h3c nofun
  refine ⟨t, ht, h3, fun c hc => ?_, fun heq => (hself heq).1⟩
  have hc2 : c t.pal[2] = vb3Entry2 (c (p0 s)) (c (p1 s)) := channel_of_perChannel hc h2
  rw [hc2, toNat_vb3Entry2]
  exact ⟨rfl, by omega⟩

end vendorB

section vendorA

/-- Settles O26: the default Vendor A palette applies R106 to the raw fields, entry 3 as the mirror. -/
theorem vendorAFourColorRedAndBlue : Obligations.VendorAFourColorRedAndBlue := by
  intro i s hi h4 hp
  obtain ⟨t, ht, h2, h3⟩ := exec_fourColor (d := .vendorA) hi h4
  rw [entries4_vendorA hp] at h2 h3
  refine ⟨t, ht, ?_⟩
  rw [h2, h3]
  exact ⟨toNat_va4Entry2RB _ _, toNat_va4Entry2RB _ _, toNat_va4Entry2RB _ _, toNat_va4Entry2RB _ _⟩

/-- Settles O27: the two dividends are one expression with the greens exchanged, and positive. -/
theorem vendorAFourColorGreen : Obligations.VendorAFourColorGreen := by
  intro i s hi h4 hp
  obtain ⟨t, ht, h2, h3⟩ := exec_fourColor (d := .vendorA) hi h4
  rw [entries4_vendorA hp] at h2 h3
  have hg2 : (t.pal[2].g.toNat : ℤ) = greenDividend 80 (p0 s).g (p1 s).g / 256 := by
    rw [h2]
    exact toNat_va4Entry2G _ _
  have hg3 : (t.pal[3].g.toNat : ℤ) = greenDividend 80 (p1 s).g (p0 s).g / 256 := by
    rw [h3, va4Entry3G_eq_swap]
    exact toNat_va4Entry2G _ _
  have hn2 : 128 ≤ greenDividend 80 (p0 s).g (p1 s).g := le_greenDividend (by decide) _ _
  have hn3 : 128 ≤ greenDividend 80 (p1 s).g (p0 s).g := le_greenDividend (by decide) _ _
  rw [greenDividend_swap] at hg3 hn3
  exact ⟨t, ht, hg2, hg3, hn2, hn3⟩

/-- Settles O28: red and blue by R108 on the raw fields, green by its quotient where that is a u8; the
coefficient multiplies 0 when the endpoints are equal. -/
theorem vendorAThreeColorEntries : Obligations.VendorAThreeColorEntries := by
  intro i s hi h3c hp
  obtain ⟨t, ht, h3, h2, hself⟩ := exec_threeColor (d := .vendorA) hi h3c fun _ => hp
  rw [entry3_vendorA hp] at h2
  have hgreen (hq : 0 ≤ va3Quotient s.params.vaG3Coef (p0 s).g (p1 s).g ∧
      va3Quotient s.params.vaG3Coef (p0 s).g (p1 s).g ≤ 255) :
      (t.pal[2].g.toNat : ℤ) = va3Quotient s.params.vaG3Coef (p0 s).g (p1 s).g := by
    rw [h2]
    exact toNat_va3Entry2G hq
  refine ⟨t, ht, h3, ?_, ?_, hgreen, fun hcoef => va3Quotient_u8 hcoef.le _ _,
    fun heq => (hself heq).1⟩
  · rw [h2]
    exact toNat_va3Entry2RB _ _
  · rw [h2]
    exact toNat_va3Entry2RB _ _

end vendorA

section dependence

/-- Both endpoints lie in `BLK[31:0]` (10_state.md R11). -/
theorem blockPalette_eq_of_blkLow_eq (p : Params) {b b' : DWord} (d : Decoder)
    (h : blkLow b = blkLow b') : blockPalette p b d = blockPalette p b' d := by
  have hcol0 (x : DWord) : blkCol0 x = (blkLow x).extractLsb' 0 16 :=
    (BitVec.extractLsb'_extractLsb'_of_le (by decide)).symm
  have hcol1 (x : DWord) : blkCol1 x = (blkLow x).extractLsb' 16 16 :=
    (BitVec.extractLsb'_extractLsb'_of_le (by decide)).symm
  simp only [blockPalette, hcol0, hcol1, h]

/-- A Vendor A palette reads two of the parameters (41_palette.md R109). -/
theorem palette_vendorA_eq {p p' : Params} (hva : p.paletteVA = p'.paletteVA)
    (hcoef : p.vaG3Coef = p'.vaG3Coef) (c0 c1 : Half) :
    palette p c0 c1 .vendorA = palette p' c0 c1 .vendorA := by
  simp only [palette, entries4, entry3, va4Entries, va3Entry, hva, hcoef]

/-- Settles O30: both commands leave the palette of one and the same block, decoder and parameters. -/
theorem paletteDependsOnEndpointsOnly : Obligations.PaletteDependsOnEndpointsOnly := by
  intro i j s s' hi hj hdec hparams hblk
  obtain ⟨t, ht, hpal, hmode⟩ := exec_pal s hi
  obtain ⟨t', ht', hpal', hmode'⟩ := exec_pal s' hj
  have hsame : blockPalette s.params s.blk i.dec = blockPalette s'.params s'.blk j.dec := by
    rw [hparams, hdec]
    exact blockPalette_eq_of_blkLow_eq _ _ hblk
  exact ⟨t, t', ht, ht', hpal.trans ((congrArg PaletteResult.entries hsame).trans hpal'.symm),
    hmode.trans ((congrArg PaletteResult.mode4 hsame).trans hmode'.symm)⟩

/-- Settles O29: the palette is a function of the endpoints and the two Vendor A parameters, and the fixed
entries and alphas do not depend on the decoder. -/
theorem vendorAPropertiesOfEveryInstance : Obligations.VendorAPropertiesOfEveryInstance := by
  intro i s s' hi hva hcoef hblk
  obtain ⟨t, ht, hpal⟩ := exec_pal_of_mem (d := .vendorA) s hi
  obtain ⟨t', ht', hpal'⟩ := exec_pal_of_mem (d := .vendorA) s' hi
  have hsame : blockPalette s.params s.blk .vendorA = blockPalette s'.params s'.blk .vendorA :=
    (palette_vendorA_eq hva hcoef _ _).trans (blockPalette_eq_of_blkLow_eq _ _ hblk)
  refine ⟨t, t', ht, ht',
    hpal.trans ((congrArg PaletteResult.entries hsame).trans hpal'.symm), ?_⟩
  rw [hpal, not_fourColor_iff, fourColor_iff]
  exact ⟨palette_entry0 _ _, palette_entry1 _ _, palette_entry2_alpha _ _,
    fun h => congrArg Rgba.a (palette_entry3_of_mode4 _ _ h), palette_entry3_of_mode3 _ _⟩

end dependence

section lanes

/-- A colour whose every channel is a function of that channel of the two endpoints
(41_palette.md R112). -/
def Lanewise (e : Half → Half → Rgb) : Prop :=
  ∃ fR fG fB : Byte → Byte → Byte, ∀ c0 c1, e c0 c1 =
    ⟨fR (expand565 c0).r (expand565 c1).r, fG (expand565 c0).g (expand565 c1).g,
      fB (expand565 c0).b (expand565 c1).b⟩

theorem lanewise_perChannel (f : Byte → Byte → Byte) :
    Lanewise fun c0 c1 => perChannel f (expand565 c0) (expand565 c1) :=
  ⟨f, f, f, fun _ _ => rfl⟩

/-- The raw field is the top of its expansion (40_unpack_expand.md R81). -/
theorem extractLsb'_expand5 (x : BitVec 5) : (expand5 x).extractLsb' 3 5 = x := by
  have htop : (8 * x.toNat + x.toNat / 4) / 2 ^ 3 = x.toNat := by omega
  apply BitVec.eq_of_toNat_eq
  rw [BitVec.extractLsb'_toNat, toNat_expand5, Nat.shiftRight_eq_div_pow, htop, Nat.mod_eq_of_lt x.isLt]

/-- Vendor A's colours: red and blue from the raw fields, green from the expanded channel. -/
theorem lanewise_raw (f : BitVec 5 → BitVec 5 → Byte) (g : Byte → Byte → Byte) :
    Lanewise fun c0 c1 => ⟨f (unpack565 c0).r5 (unpack565 c1).r5, g (expand565 c0).g (expand565 c1).g,
      f (unpack565 c0).b5 (unpack565 c1).b5⟩ := by
  refine ⟨fun x y => f (x.extractLsb' 3 5) (y.extractLsb' 3 5), g,
    fun x y => f (x.extractLsb' 3 5) (y.extractLsb' 3 5), fun c0 c1 => ?_⟩
  simp only [expand565, extractLsb'_expand5]

variable {p : Params} {d : Decoder} (hva : d = .vendorA → p.paletteVA = .reconstruction)
include hva

theorem lanewise_entry3 : Lanewise fun c0 c1 => entry3 p c0 c1 d := by
  cases d with
  | reference => exact lanewise_perChannel _
  | vendorA =>
    simp only [entry3_vendorA (hva rfl)]
    exact lanewise_raw _ _
  | vendorB => exact lanewise_perChannel _

theorem lanewise_entries4 :
    Lanewise (fun c0 c1 => (entries4 p c0 c1 d).1) ∧ Lanewise (fun c0 c1 => (entries4 p c0 c1 d).2) := by
  cases d with
  | reference => exact ⟨lanewise_perChannel _, lanewise_perChannel _⟩
  | vendorA =>
    simp only [entries4_vendorA (hva rfl)]
    exact ⟨lanewise_raw _ _, lanewise_raw _ _⟩
  | vendorB => exact ⟨lanewise_perChannel _, lanewise_perChannel _⟩

/-- In each mode, the four lanes of a palette: functions of the endpoints' lanes, alpha a constant. -/
theorem palette_lanes (m : Bool) : ∃ (fR fG fB : Fin 4 → Byte → Byte → Byte) (fA : Fin 4 → Byte),
    ∀ c0 c1, mode4 c0 c1 = m → ∀ n : Fin 4, (palette p c0 c1 d).entries[n] =
      ⟨fR n (expand565 c0).r (expand565 c1).r, fG n (expand565 c0).g (expand565 c1).g,
        fB n (expand565 c0).b (expand565 c1).b, fA n⟩ := by
  cases m with
  | true =>
    obtain ⟨⟨r2, g2, b2, h2⟩, ⟨r3, g3, b3, h3⟩⟩ := lanewise_entries4 hva
    refine ⟨![fun x _ => x, fun _ y => y, r2, r3], ![fun x _ => x, fun _ y => y, g2, g3],
      ![fun x _ => x, fun _ y => y, b2, b3], fun _ => 255, fun c0 c1 h => ?_⟩
    beta_reduce at h2 h3
    rw [palette_of_mode4 p d h, h2, h3]
    simp only [Fin.forall_fin_succ]
    exact ⟨rfl, rfl, rfl, rfl, nofun⟩
  | false =>
    obtain ⟨r2, g2, b2, h2⟩ := lanewise_entry3 hva
    refine ⟨![fun x _ => x, fun _ y => y, r2, fun _ _ => 0],
      ![fun x _ => x, fun _ y => y, g2, fun _ _ => 0], ![fun x _ => x, fun _ y => y, b2, fun _ _ => 0],
      ![255, 255, 255, 0], fun c0 c1 h => ?_⟩
    beta_reduce at h2
    rw [palette_of_mode3 p d h, h2]
    simp only [Fin.forall_fin_succ]
    exact ⟨rfl, rfl, rfl, rfl, nofun⟩

end lanes

section channels

/-- Settles O31: both palettes have the same lane functions, because the blocks have one mode. -/
theorem channelsDoNotMix : Obligations.ChannelsDoNotMix := by
  intro i s s' hop hparams hva hmode
  obtain ⟨t, ht, hpal, -⟩ := exec_pal s hop
  obtain ⟨t', ht', hpal', -⟩ := exec_pal s' hop
  obtain ⟨fR, fG, fB, fA, hlanes⟩ := palette_lanes hva (mode4 (blkCol0 s.blk) (blkCol1 s.blk))
  rw [fourColor_iff, fourColor_iff, ← Bool.eq_iff_iff] at hmode
  have h (n : Fin 4) : t.pal[n] = ⟨fR n (p0 s).r (p1 s).r, fG n (p0 s).g (p1 s).g,
      fB n (p0 s).b (p1 s).b, fA n⟩ := by
    rw [hpal]
    exact hlanes _ _ rfl n
  have h' (n : Fin 4) : t'.pal[n] = ⟨fR n (p0 s').r (p1 s').r, fG n (p0 s').g (p1 s').g,
      fB n (p0 s').b (p1 s').b, fA n⟩ := by
    rw [hpal', pal, ← hparams]
    exact hlanes _ _ hmode.symm n
  refine ⟨t, t', ht, ht', ?_⟩
  simp only [h, h', implies_true, and_true]
  exact ⟨fun h0 h1 _ => by rw [h0, h1], fun h0 h1 _ => by rw [h0, h1], fun h0 h1 _ => by rw [h0, h1]⟩

end channels

end Sys2Proof.Proofs
end

section
/-! EVAL and WEVAL: the sums they leave in `ERR` and `WERR`, when a sum is 0, and how it depends on texel
alphas and weights (42_error.md). -/

open Sys2Proof Sys2Proof.Machine Sys2Proof.Claims

namespace Sys2Proof.Proofs

section index

/-- The two bits of an index, taken from `BLK.indices` or from `BLK` (10_state.md R11). -/
theorem extractLsb'_blkIndices (blk : DWord) (k : Fin 16) :
    (blkIndices blk).extractLsb' (2 * k.val) 2 = blk.extractLsb' (32 + 2 * k.val) 2 := by
  apply BitVec.eq_of_getLsbD_eq
  intro i hi
  have hlt : 2 * k.val + i < 32 := by omega
  simp only [blkIndices, BitVec.getLsbD_extractLsb', hlt, decide_true, Bool.true_and, Nat.add_assoc]

/-- Settles O33: a shift by `2k` divides by `4^k`, and a number mod 4 is its two low bits. -/
theorem indexIsTwoBitsOfTheBlock : Obligations.IndexIsTwoBitsOfTheBlock := by
  intro blk k
  have hidx : (idx blk k).val = (blkIndices blk).toNat >>> (2 * k.val) % 2 ^ 2 := rfl
  constructor
  · have hpow : 2 ^ (2 * k.val) = 4 ^ k.val := Nat.pow_mul 2 2 k.val
    rw [hidx, Nat.shiftRight_eq_div_pow, hpow]
    rfl
  · rw [hidx, ← BitVec.extractLsb'_toNat, extractLsb'_blkIndices]

end index

section writes

/-- `WSqDist` over integers (42_error.md R136). -/
theorem wSqDist_cast (cw : ChannelWeights) (p t : Rgba) : (wSqDist cw p t : ℤ) = wdist cw p t := by
  simp only [wSqDist, Nat.cast_add, Nat.cast_mul, sqDiff_cast, wdist, pow_two (BitVec.toNat _ : ℤ)]

/-- `WSSE` over integers (42_error.md R136). -/
theorem wsse_cast (pal : Vector Rgba 4) (blk : DWord) (tex : Vector Rgba 16) (tw : Vector Byte 16)
    (cw : ChannelWeights) : (wsse pal blk tex tw cw : ℤ) =
      ∑ k : Fin 16, (tw[k].toNat : ℤ) * wdist cw pal[idx blk k] tex[k] := by
  rw [wsse, sumTexels_eq_sum, Nat.cast_sum]
  exact Finset.sum_congr rfl fun k _ => by rw [Nat.cast_mul, wSqDist_cast]

/-- `ERR` after an EVAL is the sum itself (42_error.md R134, R135). -/
theorem afterEval_err_toNat (d : Decoder) (s : State) :
    (afterEval d s).err.toNat = sse (pal d s) s.blk s.tex :=
  toNat_ofNat_sse _ _ _

/-- `WERR` after a WEVAL is the sum itself (42_error.md R137, R138). -/
theorem afterWeval_werr_toNat (d : Decoder) (s : State) :
    (afterWeval d s).werr.toNat = wsse (pal d s) s.blk s.tex s.tw s.cw :=
  toNat_ofNat_wsse _ _ _ _ _

theorem afterEval_err_cast (d : Decoder) (s : State) :
    ((afterEval d s).err.toNat : ℤ) = sumSquares d s := by
  rw [afterEval_err_toNat, sse_cast, sumSquares]

theorem afterWeval_werr_cast (d : Decoder) (s : State) :
    ((afterWeval d s).werr.toNat : ℤ) = weightedSumSquares d s := by
  rw [afterWeval_werr_toNat, wsse_cast, weightedSumSquares]

/-- Settles O13: the words by the round trip, the states by what EVAL's operation leaves. -/
theorem evalWritesTheSumOfSquares : Obligations.EvalWritesTheSumOfSquares :=
  ⟨⟨decodeWord_encodeWord .evalRef, decodeWord_encodeWord .evalVa, decodeWord_encodeWord .evalVb⟩,
    fun s => ⟨_, _, _, exec_of_eval s rfl, exec_of_eval s rfl, exec_of_eval s rfl,
      afterEval_err_cast .reference s, afterEval_err_cast .vendorA s, afterEval_err_cast .vendorB s⟩⟩

/-- Settles O14: the words by the round trip, the states by what WEVAL's operation leaves. -/
theorem wevalWritesTheWeightedSum : Obligations.WevalWritesTheWeightedSum :=
  ⟨⟨decodeWord_encodeWord .wevalRef, decodeWord_encodeWord .wevalVa, decodeWord_encodeWord .wevalVb⟩,
    fun s => ⟨_, _, _, exec_of_weval s rfl, exec_of_weval s rfl, exec_of_weval s rfl,
      afterWeval_werr_cast .reference s, afterWeval_werr_cast .vendorA s,
      afterWeval_werr_cast .vendorB s⟩⟩

end writes

section alpha

variable {tex tex' : Vector Rgba 16} (h : ∀ k : Fin 16, SameRgb tex[k] tex'[k])
include h

/-- `SSE` reads no texel alpha (42_error.md R131). -/
theorem sse_eq_of_sameRgb (pal : Vector Rgba 4) (blk : DWord) : sse pal blk tex' = sse pal blk tex := by
  unfold sse
  refine congrArg sumTexels (funext fun k => ?_)
  obtain ⟨hr, hg, hb⟩ := h k
  simp only [sqDist, hr, hg, hb]

/-- `WSSE` reads no texel alpha (42_error.md R136). -/
theorem wsse_eq_of_sameRgb (pal : Vector Rgba 4) (blk : DWord) (tw : Vector Byte 16)
    (cw : ChannelWeights) : wsse pal blk tex' tw cw = wsse pal blk tex tw cw := by
  unfold wsse
  refine congrArg sumTexels (funext fun k => ?_)
  obtain ⟨hr, hg, hb⟩ := h k
  simp only [wSqDist, hr, hg, hb]

end alpha

/-- Settles O34: by the operation of the command; NOP and PALGEN read no texel, EVAL and WEVAL only the
sums over R, G and B. -/
theorem texelAlphaIsNeverRead : Obligations.TexelAlphaIsNeverRead := by
  intro i s tex h
  cases ho : i.op with
  | nop => exact ⟨_, exec_of_nop s ho, exec_of_nop _ ho⟩
  | palgen => exact ⟨_, exec_of_palgen s ho, exec_of_palgen _ ho⟩
  | eval =>
    refine ⟨_, exec_of_eval s ho, (exec_of_eval _ ho).trans ?_⟩
    simp only [afterEval, sse_eq_of_sameRgb h]
  | weval =>
    refine ⟨_, exec_of_weval s ho, (exec_of_weval _ ho).trans ?_⟩
    simp only [afterWeval, wsse_eq_of_sameRgb h]

section zero

theorem sumTexels_eq_zero_iff (f : Fin 16 → Nat) : sumTexels f = 0 ↔ ∀ k, f k = 0 := by
  simp [sumTexels_eq_sum]

theorem sqDiff_eq_zero_iff (a b : Byte) : sqDiff a b = 0 ↔ a = b := by
  rw [sqDiff, pow_eq_zero_iff two_ne_zero, Int.natAbs_eq_zero, sub_eq_zero, Nat.cast_inj,
    BitVec.toNat_inj]

/-- A distance is 0 between colours that agree in R, G and B, and no others (42_error.md R131). -/
theorem sqDist_eq_zero_iff (p t : Rgba) : sqDist p t = 0 ↔ SameRgb p t := by
  simp only [sqDist, Nat.add_eq_zero_iff, sqDiff_eq_zero_iff, SameRgb, and_assoc]

/-- A term of weight `m` is 0 when, if its weight counts, its error is 0. -/
theorem mul_eq_zero_iff_of_pos (m n : Nat) : m * n = 0 ↔ (0 < m → n = 0) := by
  rw [Nat.mul_eq_zero, Nat.pos_iff_ne_zero, Decidable.imp_iff_not_or, ne_eq, Decidable.not_not]

/-- A channel of weight 0 takes no part in a weighted distance (42_error.md R141). -/
theorem wSqDist_eq_zero_iff (cw : ChannelWeights) (p t : Rgba) : wSqDist cw p t = 0 ↔
    (0 < cw.mR.toNat → p.r = t.r) ∧ (0 < cw.mG.toNat → p.g = t.g) ∧ (0 < cw.mB.toNat → p.b = t.b) := by
  simp only [wSqDist, Nat.add_eq_zero_iff, Nat.mul_assoc, mul_eq_zero_iff_of_pos, sqDiff_eq_zero_iff,
    ← and_imp, and_self, and_assoc]

theorem sse_eq_zero_iff (pal : Vector Rgba 4) (blk : DWord) (tex : Vector Rgba 16) :
    sse pal blk tex = 0 ↔ ∀ k : Fin 16, SameRgb pal[idx blk k] tex[k] := by
  simp only [sse, sumTexels_eq_zero_iff, sqDist_eq_zero_iff]

/-- A texel of weight 0 takes no part in a weighted sum (42_error.md R141). -/
theorem wsse_eq_zero_iff (pal : Vector Rgba 4) (blk : DWord) (tex : Vector Rgba 16)
    (tw : Vector Byte 16) (cw : ChannelWeights) :
    wsse pal blk tex tw cw = 0 ↔ ∀ k : Fin 16, 0 < tw[k].toNat →
      (0 < cw.mR.toNat → pal[idx blk k].r = tex[k].r) ∧
      (0 < cw.mG.toNat → pal[idx blk k].g = tex[k].g) ∧
      (0 < cw.mB.toNat → pal[idx blk k].b = tex[k].b) := by
  simp only [wsse, sumTexels_eq_zero_iff, mul_eq_zero_iff_of_pos, wSqDist_eq_zero_iff]

/-- A register holds 0 when its number is 0. -/
theorem eq_zero_iff_toNat {w : Nat} (x : BitVec w) : x = 0 ↔ x.toNat = 0 := by
  simp [← BitVec.toNat_inj]

theorem afterEval_err_eq_zero_iff (d : Decoder) (s : State) : (afterEval d s).err = 0 ↔
    ∀ k : Fin 16, SameRgb (pal d s)[idx s.blk k] s.tex[k] := by
  rw [eq_zero_iff_toNat, afterEval_err_toNat, sse_eq_zero_iff]

theorem afterWeval_werr_eq_zero_iff (d : Decoder) (s : State) : (afterWeval d s).werr = 0 ↔
    wsse (pal d s) s.blk s.tex s.tw s.cw = 0 := by
  rw [eq_zero_iff_toNat, afterWeval_werr_toNat]

end zero

/-- Settles O37: every distance is 0, so both sums are. -/
theorem decodeThenEvaluateIsZero : Obligations.DecodeThenEvaluateIsZero := by
  intro i s h
  cases ho : i.op with
  | nop => exact ⟨_, exec_of_nop s ho, nofun, nofun⟩
  | palgen => exact ⟨_, exec_of_palgen s ho, nofun, nofun⟩
  | eval => exact ⟨_, exec_of_eval s ho, fun _ => (afterEval_err_eq_zero_iff i.dec s).2 h, nofun⟩
  | weval =>
    refine ⟨_, exec_of_weval s ho, nofun, fun _ => ?_⟩
    rw [afterWeval_werr_eq_zero_iff, wsse_eq_zero_iff]
    intro k _
    obtain ⟨hr, hg, hb⟩ := h k
    exact ⟨fun _ => hr, fun _ => hg, fun _ => hb⟩

section bounds

/-- A unit with a white block, whose indices are 0, and black texels: the largest error of EVAL
(42_error.md R134). -/
def whiteOnBlack : State := { State.reset with blk := 0x00000000FFFFFFFF }

theorem sse_whiteOnBlack :
    sse (pal .reference whiteOnBlack) whiteOnBlack.blk whiteOnBlack.tex = 3121200 := by decide

/-- Settles O35: the bound of the sum, and two states that reach the ends. -/
theorem errNeverExceedsItsBound : Obligations.ErrNeverExceedsItsBound := by
  refine ⟨fun i s ho => ⟨_, exec_of_eval s ho, afterEval_err_cast i.dec s, ?_⟩,
    ⟨State.reset, _, exec_of_eval _ rfl, ?_⟩, ⟨whiteOnBlack, _, exec_of_eval _ rfl, ?_⟩⟩
  · have h := sse_le (pal i.dec s) s.blk s.tex
    rw [afterEval_err_toNat]
    omega
  · have h : ∀ k : Fin 16, SameRgb (pal .reference State.reset)[idx State.reset.blk k]
        State.reset.tex[k] := by
      unfold SameRgb
      decide
    exact (afterEval_err_toNat .reference _).trans ((sse_eq_zero_iff _ _ _).2 h)
  · exact (afterEval_err_toNat .reference _).trans sse_whiteOnBlack

/-- Settles O36: the bound of the sum, and the bounds of its parts, over integers. -/
theorem werrNeverExceedsItsBound : Obligations.WerrNeverExceedsItsBound := by
  refine ⟨fun i s ho => ⟨_, exec_of_weval s ho, afterWeval_werr_cast i.dec s, ?_⟩,
    fun m a b => ⟨?_, ?_⟩, fun cw p t w => ?_⟩
  · have h := wsse_le (pal i.dec s) s.blk s.tex s.tw s.cw
    rw [afterWeval_werr_toNat]
    omega
  · have hm : m.toNat ≤ 255 := by omega
    exact Nat.mul_le_mul hm hm
  · have h := weightedSqDiff_le m a b
    rw [← sqDiff_cast, pow_two]
    exact_mod_cast h
  · have h := wSqDist_le cw p t
    have hw : w.toNat ≤ 255 := by omega
    rw [← wSqDist_cast]
    exact ⟨by exact_mod_cast h, by exact_mod_cast Nat.mul_le_mul hw h⟩

end bounds

section weights

theorem sumTexels_mono {f g : Fin 16 → Nat} (h : ∀ k, f k ≤ g k) : sumTexels f ≤ sumTexels g := by
  rw [sumTexels_eq_sum, sumTexels_eq_sum]
  exact Finset.sum_le_sum fun k _ => h k

/-- A weighted distance does not fall when a channel weight rises (42_error.md R141). -/
theorem wSqDist_mono {cw cw' : ChannelWeights} (hr : cw.mR.toNat ≤ cw'.mR.toNat)
    (hg : cw.mG.toNat ≤ cw'.mG.toNat) (hb : cw.mB.toNat ≤ cw'.mB.toNat) (p t : Rgba) :
    wSqDist cw p t ≤ wSqDist cw' p t := by
  unfold wSqDist
  gcongr

/-- Settles O38: the sum is monotone term by term, and 0 exactly when every term is. -/
theorem weightedErrorIsMonotone : Obligations.WeightedErrorIsMonotone := by
  refine ⟨fun i s tw cw ho htw hr hg hb => ⟨_, _, exec_of_weval s ho, exec_of_weval _ ho, ?_⟩,
    fun i s ho => ⟨_, exec_of_weval s ho, ?_⟩⟩
  · rw [afterWeval_werr_toNat, afterWeval_werr_toNat]
    exact sumTexels_mono fun k => Nat.mul_le_mul (htw k) (wSqDist_mono hr hg hb _ _)
  · rw [afterWeval_werr_eq_zero_iff, wsse_eq_zero_iff]

/-- With channel weights 1 the weighted distance is the distance (42_error.md R137). -/
theorem wSqDist_unit (p t : Rgba) : wSqDist ⟨1, 1, 1⟩ p t = sqDist p t := by
  simp [wSqDist, sqDist]

/-- Settles O39: with weights 1 the two sums are equal term by term. -/
theorem unitWeightsGiveTheUnweightedError : Obligations.UnitWeightsGiveTheUnweightedError := by
  intro i j s hi hj hdec htw hcw
  have hone : (1 : Byte).toNat = 1 := rfl
  refine ⟨_, _, exec_of_eval s hi, exec_of_weval s hj, ?_⟩
  rw [afterEval_err_toNat, afterWeval_werr_toNat, hdec, hcw]
  simp only [wsse, sse, htw, wSqDist_unit, hone, Nat.one_mul]

end weights

section scaling

/-- A squared difference over the reals. -/
theorem sqDiff_cast_real (a b : Byte) : (sqDiff a b : ℝ) = ((a.toNat : ℝ) - b.toNat) ^ 2 := by
  exact_mod_cast congrArg (Int.cast : ℤ → ℝ) (sqDiff_cast a b)

/-- Settles O40: the division is taken into the sum, and each term is linear in its texel weight and
quadratic in the channel weights. -/
theorem werrScalesToTheRealError : Obligations.WerrScalesToTheRealError := by
  intro i s sw sm ho hsw hsm
  refine ⟨_, exec_of_weval s ho, ?_⟩
  rw [afterWeval_werr_toNat, wsse, sumTexels_eq_sum, Nat.cast_sum, Finset.sum_div]
  refine Finset.sum_congr rfl fun k _ => ?_
  simp only [wSqDist, Nat.cast_mul, Nat.cast_add, sqDiff_cast_real]
  field_simp

end scaling

end Sys2Proof.Proofs
end

section
/-! The control commands of 43_control.md: the write of `STATUS` (R151) and NOP (R150). -/

open Sys2Proof Sys2Proof.Machine

namespace Sys2Proof.Proofs

section statusWrite

/-- Settles O50: the step is the write of the register at 0x0C, which keeps `ILL` and `ACC` where their
bits are 0 (`Status.writeOneToClear_ill`, `Status.writeOneToClear_acc`) and writes nothing else. -/
theorem statusWriteOnlyClearsStickyFlags : Obligations.StatusWriteOnlyClearsStickyFlags := by
  intro s rest v hp
  have hstep : step s = .next (clearSticky v (accept rest s)) :=
    step_writeReg (r := .status) (by decide) hp
  exact ⟨_, hstep, by simp, by simp, rfl, rfl, rfl, rfl, rfl⟩

end statusWrite

section nop

/-- Settles O11: the words by the round trip; 0x30 has `dec` = 3 and 0x40 has a reserved bit set; the
states by what NOP's operation leaves. -/
theorem nopChangesNothing : Obligations.NopChangesNothing := by
  refine ⟨⟨decodeWord_encodeWord .nopRef, decodeWord_encodeWord .nopVa, decodeWord_encodeWord .nopVb⟩,
    ?_, ?_, fun s => ⟨exec_of_nop s rfl, exec_of_nop s rfl, exec_of_nop s rfl⟩⟩
  · intro h
    obtain ⟨-, hdec, -⟩ := (exists_decodeWord_iff_fields 0x30).mp h
    exact hdec rfl
  · intro h
    obtain ⟨hrsv, -, -⟩ := (exists_decodeWord_iff_fields 0x40).mp h
    exact absurd hrsv (by decide)

end nop

end Sys2Proof.Proofs
end

section
/-! Events and their flags (60_exceptions.md): what makes a word illegal (R161), that nothing stops the unit
(R160, R166), and what a step can do to `ILL` and `ACC` (R165, R167). -/

open Sys2Proof Sys2Proof.Machine Sys2Proof.Claims

namespace Sys2Proof.Proofs

section illegalWord

/-- A set bit among bits 31:6 makes the reserved field nonzero (30_encoding.md R60). -/
theorem rsvField_ne_zero_of_bit {w : Word} {k : Nat} (hk : 6 ≤ k) (h : w.getLsbD k = true) :
    rsvField w ≠ 0 := by
  intro h0
  have hbit : (rsvField w).getLsbD (k - 6) = true := by
    have hlt : k < 32 := BitVec.lt_of_getLsbD h
    rw [rsvField, BitVec.getLsbD_extractLsb', Nat.add_sub_cancel' hk, h]
    simp only [Bool.and_true, decide_eq_true_eq]
    omega
  simp [h0] at hbit

/-- A word is illegal exactly when one of its three fields is out of range (30_encoding.md R64). -/
theorem legal_eq_false_iff (w : Word) :
    Legal w = false ↔ rsvField w ≠ 0 ∨ decField w = 3 ∨ 4 ≤ (opField w).toNat := by
  rw [← Bool.not_eq_true, ← exists_decodeWord_iff_legal, exists_decodeWord_iff_fields,
    not_and_or, not_and_or, not_not, not_le, Nat.lt_iff_add_one_le]

/-- Settles O7: each of the three causes puts a field out of range, and an illegal word does no more. -/
theorem illegalWordSetsIllAndNothingElse : Obligations.IllegalWordSetsIllAndNothingElse := by
  intro s rest w hp hcause
  refine step_illegalWord hp ((legal_eq_false_iff w).mpr (hcause.imp_left ?_))
  rintro ⟨k, hk, -, hbit⟩
  exact rsvField_ne_zero_of_bit hk hbit

end illegalWord

section completion

/-- Every command completes (60_exceptions.md R160). -/
theorem exec_completes (i : Instr) (s : State) : ∃ t, exec i s = .next t := by
  obtain ⟨t, ht, -⟩ := commandsCompleteAndKeepTheRest i s
  exact ⟨t, ht⟩

/-- Every word written to `CMD` is taken, a command or not (30_encoding.md R65). -/
theorem execute_completes (w : Word) (s : State) : ∃ t, execute w s = .next t := by
  unfold execute
  split
  next i _ => exact exec_completes i s
  next => exact ⟨_, rfl⟩

/-- Every aligned write is taken, whatever stands at its offset (20_memory.md R45, R47). -/
theorem writeWord_completes (off : Nat) (v : Word) (s : State) : ∃ t, writeWord off v s = .next t := by
  unfold writeWord
  split
  next => exact execute_completes v s
  next => exact ⟨_, rfl⟩
  next => exact ⟨_, rfl⟩

/-- Every write is taken, of any width, at any address (20_memory.md R40, R46). -/
theorem hostWrite_completes (addr : Nat) (data : List Byte) (s : State) :
    ∃ t, hostWrite addr data s = .next t := by
  unfold hostWrite
  split
  next => exact ⟨_, rfl⟩
  next off _ =>
    split
    next =>
      split
      next => exact writeWord_completes off _ s
      next => exact ⟨_, rfl⟩
    next => exact ⟨_, rfl⟩

/-- Settles O8, by the input that waits: a reset and a read answer outright, a write by
`hostWrite_completes`. -/
theorem everyStepCompletes : Obligations.EveryStepCompletes := by
  intro s
  cases hp : s.pending with
  | nil => exact ⟨s, by simp [step, stepOnce, hp]⟩
  | cons e rest =>
    rw [step_of_pending hp]
    cases e with
    | reset => exact ⟨_, rfl⟩
    | read addr width => exact ⟨_, rfl⟩
    | write addr data => exact hostWrite_completes addr data (accept rest s)

end completion

section stickyFlags

/-- `ILL` and `ACC` of two states agree. -/
structure StickyFlagsKept (s t : State) : Prop where
  ill : t.status.ill = s.status.ill
  acc : t.status.acc = s.status.acc

/-- No command touches `ILL` or `ACC` (60_exceptions.md R167). -/
theorem exec_keepsStickyFlags {i : Instr} {s t : State} (h : exec i s = .next t) :
    StickyFlagsKept s t := by
  obtain ⟨-, rfl⟩ | ⟨-, rfl⟩ | ⟨-, rfl⟩ | ⟨-, rfl⟩ := exec_cases h <;> exact ⟨rfl, rfl⟩

/-- A register write is the write-1-to-clear of `STATUS`, or an access error, or leaves `ILL` and `ACC`
alone (20_memory.md R45). -/
theorem writeReg_stickyFlags (r : WindowReg) (v : Word) (s : State) :
    (r = .status ∧ (writeReg r v s).status = s.status.writeOneToClear v) ∨
    (writeReg r v s).status = s.status.raise .access ∨ StickyFlagsKept s (writeReg r v s) := by
  cases r with
  | status => exact .inl ⟨rfl, rfl⟩
  | pal _ | err | werrLo | werrHi => exact .inr (.inl rfl)
  | _ => exact .inr (.inr ⟨rfl, rfl⟩)

/-- Everything a step can do to `ILL` and `ACC`: it resets the unit, writes `STATUS`, takes one event, or
leaves both alone (60_exceptions.md R165, R167). -/
theorem step_stickyFlags {s t : State} (h : step s = .next t) :
    (∃ rest, s.pending = .reset :: rest ∧ t.status = Status.cleared) ∨
    (∃ rest v, s.pending = writeAt s.params 0x0C v :: rest ∧
      t.status = s.status.writeOneToClear v) ∨
    (∃ ev, t.status = s.status.raise ev) ∨ StickyFlagsKept s t := by
  obtain ⟨-, rfl⟩ | ⟨e, rest, hp, rfl | ⟨w, i, -, -, hx⟩ | ⟨r, v, rfl, -, rfl⟩ | ⟨ev, rfl⟩ | ⟨b, rfl⟩ |
    ⟨b, rfl⟩ | ⟨rfl, rfl⟩⟩ := step_cases h
  · exact .inr (.inr (.inr ⟨rfl, rfl⟩))
  · exact .inr (.inr (.inr ⟨rfl, rfl⟩))
  · have hk := exec_keepsStickyFlags hx
    exact .inr (.inr (.inr ⟨hk.ill, hk.acc⟩))
  · obtain ⟨rfl, hst⟩ | hst | hk := writeReg_stickyFlags r v (accept rest s)
    · exact .inr (.inl ⟨rest, v, hp, hst⟩)
    · exact .inr (.inr (.inl ⟨.access, hst⟩))
    · exact .inr (.inr (.inr ⟨hk.ill, hk.acc⟩))
  · exact .inr (.inr (.inl ⟨ev, rfl⟩))
  · exact .inr (.inr (.inr ⟨rfl, rfl⟩))
  · exact .inr (.inr (.inl ⟨.access, rfl⟩))
  · exact .inl ⟨rest, hp, rfl⟩

/-- An event clears no flag (60_exceptions.md R167). -/
theorem raise_clears_neither (f : Status) (ev : ErrorEvent) :
    (f.ill = true → (f.raise ev).ill = true) ∧ (f.acc = true → (f.raise ev).acc = true) := by
  cases ev <;> simp

/-- One event raises one flag (60_exceptions.md R165). -/
theorem raise_keeps_ill_or_acc (f : Status) (ev : ErrorEvent) :
    (f.raise ev).ill = f.ill ∨ (f.raise ev).acc = f.acc := by
  cases ev <;> simp

/-- The state with `ILL` and `ACC` replaced. -/
def withStickyFlags (ill acc : Bool) (s : State) : State :=
  { s with status := { s.status with ill := ill, acc := acc } }

/-- A command does the same whatever `ILL` and `ACC` are (60_exceptions.md R167). -/
theorem exec_withStickyFlags (i : Instr) (s : State) (ill acc : Bool) : ∃ t, exec i s = .next t ∧
    exec i (withStickyFlags ill acc s) = .next (withStickyFlags ill acc t) := by
  cases ho : i.op with
  | nop => exact ⟨_, exec_of_nop s ho, exec_of_nop _ ho⟩
  | palgen => exact ⟨_, exec_of_palgen s ho, exec_of_palgen _ ho⟩
  | eval => exact ⟨_, exec_of_eval s ho, exec_of_eval _ ho⟩
  | weval => exact ⟨_, exec_of_weval s ho, exec_of_weval _ ho⟩

/-- Settles O49: of what a step can do to the flags, only a reset and a write of 1 to its bit of `STATUS`
clear one; and no command reads them. -/
theorem stickyFlagsStayAndGateNothing : Obligations.StickyFlagsStayAndGateNothing := by
  refine ⟨fun s t e rest hp h he => ?_, exec_withStickyFlags⟩
  obtain ⟨rest', hp', -⟩ | ⟨rest', v, hp', hst⟩ | ⟨ev, hst⟩ | hk := step_stickyFlags h
  · exact absurd (List.cons.inj (hp.symm.trans hp')).1 he
  · have hv : e = writeAt s.params 0x0C v := (List.cons.inj (hp.symm.trans hp')).1
    rw [hst, Status.writeOneToClear_ill, Status.writeOneToClear_acc]
    exact ⟨fun h4 hill => by rw [hill, h4 v hv]; rfl, fun h5 hacc => by rw [hacc, h5 v hv]; rfl⟩
  · rw [hst]
    exact ⟨fun _ => (raise_clears_neither s.status ev).1, fun _ => (raise_clears_neither s.status ev).2⟩
  · exact ⟨fun _ => hk.ill.trans, fun _ => hk.acc.trans⟩

end stickyFlags

section oneEvent

/-- After a step from a state with both flags 0, one of them is 0 still (60_exceptions.md R165). -/
theorem step_raises_at_most_one {s t : State} (h : step s = .next t) (hill : s.status.ill = false)
    (hacc : s.status.acc = false) : t.status.ill = false ∨ t.status.acc = false := by
  obtain ⟨-, -, hst⟩ | ⟨-, v, -, hst⟩ | ⟨ev, hst⟩ | hk := step_stickyFlags h
  · exact .inl (by rw [hst, Status.cleared_ill])
  · exact .inl (by rw [hst, Status.writeOneToClear_ill, hill, Bool.false_and])
  · rw [hst]
    exact (raise_keeps_ill_or_acc s.status ev).imp (·.trans hill) (·.trans hacc)
  · exact .inl (hk.ill.trans hill)

/-- No word written to `CMD` touches `ACC` (60_exceptions.md R161, R165). -/
theorem execute_acc {w : Word} {s t : State} (h : execute w s = .next t) :
    t.status.acc = s.status.acc := by
  obtain ⟨i, -, hx⟩ | ⟨e, -, rfl⟩ := execute_cases h
  · exact (exec_keepsStickyFlags hx).acc
  · rfl

/-- Settles O52: no step takes two events; at 0x08 to 0x0B only four bytes at 0x08 itself reach `CMD`, and
any other write is the access error. -/
theorem oneTransactionRaisesAtMostOneEvent : Obligations.OneTransactionRaisesAtMostOneEvent := by
  refine ⟨fun s t h => ?_, fun s rest off data hp hlo hhi => ?_⟩
  · rintro ⟨hill, hill', hacc, hacc'⟩
    simpa [hill', hacc'] using step_raises_at_most_one h hill hacc
  · by_cases hcmd : data.length = 4 ∧ off = 0x08
    · obtain ⟨hlen, rfl⟩ := hcmd
      obtain ⟨t, ht⟩ := everyStepCompletes s
      refine ⟨t, ht, fun hne => by simp [hlen] at hne, fun _ => ?_⟩
      obtain ⟨b0, b1, b2, b3, rfl⟩ := List.length_eq_four.mp hlen
      rw [write_four_bytes] at hp
      exact execute_acc (s := accept rest s) ((step_writeAt_cmd hp).symm.trans ht)
    · have hstep : step s = .next (withAcc rest none s) :=
        unsupportedAccessOnlySetsAcc.2 s rest off data hp (by omega) (by omega)
      exact ⟨_, hstep, fun _ => ⟨rfl, rfl⟩, fun h => absurd h hcmd⟩

end oneEvent

end Sys2Proof.Proofs
end

section
/-! Reset and hazards (70_reset_and_hazards.md): results are snapshots (R185), what a reset clears (R180),
and a run through all the inputs that wait (R187, R188) with its ghost bit (60_exceptions.md R168). -/

open Sys2Proof Sys2Proof.Machine Sys2Proof.Claims

namespace Sys2Proof.Proofs

section snapshots

/-- Writing an operand register changes no flag (70_reset_and_hazards.md R185). -/
theorem writeReg_status_of_isOperand {r : WindowReg} (h : IsOperand r) (v : Word) (s : State) :
    (writeReg r v s).status = s.status := by
  cases r with
  | blkLo | blkHi | cw | tw _ | tex _ => rfl
  | cmd | status | pal _ | err | werrLo | werrHi => exact h.elim

/-- Settles O53: the step is the write of one operand register. -/
theorem resultsAreSnapshots : Obligations.ResultsAreSnapshots := by
  intro s rest r v hop hp
  have hk := writeReg_keepsResults r v (accept rest s)
  exact ⟨_, step_writeReg (ne_cmd_of_isOperand hop) hp, hk.pal, hk.err, hk.werr,
    writeReg_status_of_isOperand hop v (accept rest s)⟩

end snapshots

section reset

/-- Settles O54: the step is the reset of the unit, field by field. -/
theorem resetEventClearsTheFlags : Obligations.ResetEventClearsTheFlags := fun s rest hp =>
  ⟨resetUnit (accept rest s), step_of_pending hp, resetUnit_status _, resetUnit_params _,
    resetUnit_pending _, resetUnit_errorSeen _⟩

end reset

section ghostBit

/-- What makes a read in the window raise an event (60_exceptions.md R162). -/
theorem raisesEvent_read_iff (p : Params) {off : Nat} (hoff : off < 256) (width : Nat) :
    RaisesEvent p (.read (p.base.addr + off) width) ↔ width ≠ 4 ∨ off % 4 ≠ 0 ∨ Unmapped off := by
  simp [RaisesEvent, hoff]

/-- An access of another width or alignment raises an event (60_exceptions.md R162). -/
theorem raisesEvent_write_of_unsupported (p : Params) {off : Nat} {data : List Byte} (hoff : off < 256)
    (h : data.length ≠ 4 ∨ off % 4 ≠ 0) : RaisesEvent p (.write (p.base.addr + off) data) := by
  rw [RaisesEvent, Nat.add_sub_cancel_left]
  exact ⟨by omega, h.imp_right .inl⟩

/-- The bytes of a word determine it (20_memory.md R42). -/
theorem bytesOfWord_injective : Function.Injective bytesOfWord := by
  intro v w h
  simp only [bytesOfWord, List.cons.injEq, and_true] at h
  obtain ⟨h0, h1, h2, h3⟩ := h
  rw [← wordOfBytes_bytesOfWord v, h0, h1, h2, h3, wordOfBytes_bytesOfWord]

/-- What makes an aligned write of a word raise an event (60_exceptions.md R161, R162). -/
theorem raisesEvent_writeAt_iff (p : Params) {off : Nat} (hoff : off < 256) (ha : off % 4 = 0)
    (v : Word) : RaisesEvent p (writeAt p off v) ↔
      Unmapped off ∨ ReadOnly off ∨ (off = 0x08 ∧ Legal v = false) := by
  simp [RaisesEvent, writeAt, hoff, ha, bytesOfWord_injective.eq_iff]

/-- An aligned offset of the window with no register is one of the unmapped ones (20_memory.md R41). -/
theorem unmapped_of_registerAt_eq_none {off : Nat} (hoff : off < 256) (ha : off % 4 = 0)
    (h : registerAt off = none) : Unmapped off := by
  unfold registerAt at h
  repeat' split at h
  all_goals simp only [reduceCtorEq] at h
  unfold Unmapped
  omega

/-- At an aligned offset of the window stands a register unless it is unmapped (20_memory.md R41). -/
theorem registerAt_eq_none_iff {off : Nat} (hoff : off < 256) (ha : off % 4 = 0) :
    registerAt off = none ↔ Unmapped off :=
  ⟨unmapped_of_registerAt_eq_none hoff ha, registerAt_of_unmapped⟩

/-- Two registers do not share an offset (20_memory.md R41). -/
theorem offset_injective : Function.Injective WindowReg.offset := fun r r' h =>
  Option.some.inj (by rw [← registerAt_offset r, h, registerAt_offset])

/-- A register write sets the ghost bit exactly at the read-only registers (20_memory.md R45,
60_exceptions.md R162, R168). -/
theorem writeReg_errorSeen (r : WindowReg) (v : Word) (s : State) :
    (writeReg r v s).errorSeen = true ↔ s.errorSeen = true ∨ ReadOnly r.offset := by
  unfold ReadOnly
  cases r with
  | tw j | tex k => simp [writeReg, WindowReg.offset]; omega
  | pal n => fin_cases n <;> simp [writeReg, WindowReg.offset]
  | _ => simp [writeReg, WindowReg.offset]

/-- A word written to `CMD` sets the ghost bit exactly when it is illegal (60_exceptions.md R161, R168). -/
theorem execute_errorSeen {w : Word} {s t : State} (h : execute w s = .next t) :
    t.errorSeen = true ↔ s.errorSeen = true ∨ Legal w = false := by
  obtain ⟨i, hi, hx⟩ | ⟨e, he, rfl⟩ := execute_cases h
  · have hl : Legal w = true := (exists_decodeWord_iff_legal w).mp ⟨i, hi⟩
    obtain ⟨-, rfl⟩ | ⟨-, rfl⟩ | ⟨-, rfl⟩ | ⟨-, rfl⟩ := exec_cases hx <;> simp [hl]
  · have hl : Legal w = false := by
      rw [← Bool.not_eq_true, ← exists_decodeWord_iff_legal, he]
      simp
    simp [hl]

/-- An aligned write sets the ghost bit exactly at an unmapped offset, at a read-only register, or with
an illegal word at `CMD` (60_exceptions.md R161, R162, R168). -/
theorem writeWord_errorSeen {off : Nat} {v : Word} {s t : State} (ha : off % 4 = 0)
    (hoff : off < 256) (h : writeWord off v s = .next t) : t.errorSeen = true ↔
      s.errorSeen = true ∨ Unmapped off ∨ ReadOnly off ∨ (off = 0x08 ∧ Legal v = false) := by
  obtain ⟨hr, hx⟩ | ⟨r, hr, hc, rfl⟩ | ⟨hr, rfl⟩ := writeWord_cases h
  · obtain rfl : 0x08 = off := offset_of_registerAt hr ha
    simp [execute_errorSeen hx, Unmapped, ReadOnly]
  · have hmapped : ¬Unmapped off := by rw [← registerAt_eq_none_iff hoff ha, hr]; nofun
    obtain rfl := offset_of_registerAt hr ha
    have hcmd : r.offset ≠ 0x08 := offset_injective.ne hc
    simp [writeReg_errorSeen, hmapped, hcmd]
  · simp [(registerAt_eq_none_iff hoff ha).mp hr]

/-- A read sets the ghost bit exactly when it raises an event (60_exceptions.md R162, R168). -/
theorem hostRead_errorSeen (addr width : Nat) (s : State) : (hostRead addr width s).errorSeen = true ↔
    s.errorSeen = true ∨ RaisesEvent s.params (.read addr width) := by
  by_cases haddr : s.params.base.addr ≤ addr ∧ addr < s.params.base.addr + 256
  · obtain ⟨off, rfl⟩ := Nat.exists_eq_add_of_le haddr.1
    have hoff : off < 256 := by omega
    rw [raisesEvent_read_iff s.params hoff]
    by_cases hu : width ≠ 4 ∨ off % 4 ≠ 0
    · simp only [hostRead_of_unsupported s hoff hu, respond_errorSeen, takeError_errorSeen, true_iff]
      exact .inr (or_assoc.mp (.inl hu))
    · obtain ⟨rfl, ha⟩ : width = 4 ∧ off % 4 = 0 := by omega
      simp only [hostRead, windowOffset_base _ hoff, readWord, ← registerAt_eq_none_iff hoff ha]
      cases hr : registerAt off <;> simp [ha]
  · have hout : windowOffset s.params addr = none := windowOffset_outside (by omega)
    simp [hostRead, hout, RaisesEvent, haddr]

/-- A write sets the ghost bit exactly when it raises an event (60_exceptions.md R161, R162, R168). -/
theorem hostWrite_errorSeen {addr : Nat} {data : List Byte} {s t : State}
    (h : hostWrite addr data s = .next t) : t.errorSeen = true ↔
      s.errorSeen = true ∨ RaisesEvent s.params (.write addr data) := by
  by_cases haddr : s.params.base.addr ≤ addr ∧ addr < s.params.base.addr + 256
  · obtain ⟨off, rfl⟩ := Nat.exists_eq_add_of_le haddr.1
    have hoff : off < 256 := by omega
    by_cases hu : data.length ≠ 4 ∨ off % 4 ≠ 0
    · rw [hostWrite_of_unsupported s hoff hu] at h
      cases h
      simp [raisesEvent_write_of_unsupported s.params hoff hu]
    · obtain ⟨hlen, ha⟩ : data.length = 4 ∧ off % 4 = 0 := by omega
      obtain ⟨b0, b1, b2, b3, rfl⟩ := List.length_eq_four.mp hlen
      rw [write_four_bytes, raisesEvent_writeAt_iff s.params hoff ha]
      refine writeWord_errorSeen ha hoff ((handle_writeAt s _ hoff ha).symm.trans ?_)
      rwa [← write_four_bytes]
  · have hout : windowOffset s.params addr = none := windowOffset_outside (by omega)
    simp only [hostWrite, hout, Host.Outcome.next.injEq] at h
    subst h
    simp [RaisesEvent, haddr]

/-- An input sets the ghost bit exactly when it raises an event, and no input clears it
(60_exceptions.md R168). -/
theorem handle_errorSeen {e : HostEvent} {s t : State} (h : handle e s = .next t) :
    t.errorSeen = true ↔ s.errorSeen = true ∨ RaisesEvent s.params e := by
  cases e with
  | reset => cases h; simp [RaisesEvent]
  | read addr width => cases h; exact hostRead_errorSeen addr width s
  | write addr data => exact hostWrite_errorSeen h

/-- A step with an input waiting sets the ghost bit exactly when that input raises an event
(60_exceptions.md R168). -/
theorem step_errorSeen {s t : State} {e : HostEvent} {rest : List HostEvent}
    (hp : s.pending = e :: rest) (h : step s = .next t) :
    t.errorSeen = true ↔ s.errorSeen = true ∨ RaisesEvent s.params e :=
  handle_errorSeen (s := accept rest s) ((step_of_pending hp).symm.trans h)

end ghostBit

section runs

/-- No command adds an input or takes one (70_reset_and_hazards.md R187). -/
theorem exec_pending {i : Instr} {s t : State} (h : exec i s = .next t) : t.pending = s.pending := by
  obtain ⟨-, rfl⟩ | ⟨-, rfl⟩ | ⟨-, rfl⟩ | ⟨-, rfl⟩ := exec_cases h <;> rfl

/-- A step takes the input that waits, whatever it is, and no other (70_reset_and_hazards.md R187). -/
theorem step_pending {s t : State} {e : HostEvent} {rest : List HostEvent}
    (hp : s.pending = e :: rest) (h : step s = .next t) : t.pending = rest := by
  obtain ⟨hn, -⟩ | ⟨e', rest', hp', h⟩ := step_cases h
  · simp [hp] at hn
  obtain ⟨rfl, rfl⟩ : e = e' ∧ rest = rest' := by simpa [hp] using hp'
  obtain rfl | ⟨w, i, -, -, hx⟩ | ⟨r, v, -, -, rfl⟩ | ⟨ev, rfl⟩ | ⟨b, rfl⟩ | ⟨b, rfl⟩ | ⟨-, rfl⟩ := h
  · rfl
  · exact exec_pending hx
  · exact writeReg_pending r v (accept rest s)
  all_goals rfl

/-- A step with no input waiting leaves the whole state (log 12). -/
theorem step_of_no_input {s : State} (hp : s.pending = []) : step s = .next s := by
  simp [step, stepOnce, hp]

/-- A run takes its inputs one by one: the ghost bit at its end is that of its start or of an event on
the way, and a flag that is up was seen then if it was at the start (60_exceptions.md R168). -/
theorem run_inputs (inputs : List HostEvent) (s : State) (hp : s.pending = inputs) :
    ∃ t, Sys2Proof.core.run inputs.length s = .next t ∧ t.pending = [] ∧
      (t.errorSeen = true ↔ s.errorSeen = true ∨ ∃ e ∈ inputs, RaisesEvent s.params e) ∧
      (ErrorsAreSeen s → ErrorsAreSeen t) := by
  induction inputs generalizing s with
  | nil => exact ⟨s, rfl, hp, by simp, id⟩
  | cons e rest ih =>
    obtain ⟨u, hu⟩ := everyStepCompletes s
    obtain ⟨t, hrun, hpend, hseen, hinv⟩ := ih u (step_pending hp hu)
    refine ⟨t, (run_succ hu rest.length).trans hrun, hpend, ?_, hinv ∘ step_errorsAreSeen hu⟩
    rw [hseen, step_errorSeen hp hu, parametersAreConstants s u hu, List.exists_mem_cons_iff, or_assoc]

/-- With the ghost bit 0, no flag that must have been seen is up (60_exceptions.md R168). -/
theorem flags_down_of_no_error_seen {s : State} (hs : ErrorsAreSeen s) (h : s.errorSeen = false) :
    s.status.ill = false ∧ s.status.acc = false := by
  simpa [ErrorsAreSeen, h] using hs

/-- Settles O57, by the ghost bit's law of one step, and by induction on the inputs that wait. -/
theorem runTakesEveryInput : Obligations.RunTakesEveryInput := by
  refine ⟨fun _ _ _ _ => step_errorSeen, fun s t hp h => ?_, fun s => ?_⟩
  · obtain rfl : s = t := by simpa [step_of_no_input hp] using h
    rfl
  · obtain ⟨t, hrun, hpend, hseen, hinv⟩ := run_inputs s.pending s rfl
    exact ⟨t, hrun, hpend, hseen, fun hs => flags_down_of_no_error_seen (hinv hs)⟩

end runs

end Sys2Proof.Proofs
end
